-- ==== Sys2Proof/Word.lean ====
section
/-! DEFINITION. The word types of the port: every value is an unsigned bit vector (00_scope.md rule R7). -/

namespace Sys2Proof

/-- A 32-bit register or data field (10_state.md rules R30 to R49). -/
abbrev Word := BitVec 32

/-- A byte of the core's memory. -/
abbrev Byte := BitVec 8

end Sys2Proof
end

