-- ==== Sys2Proof/Machine/CoreState.lean ====
section
/-! DEFINITION. The core as the debug sequences see it: the plain data its registers and memory are
held in, and the types of the questions put to the uninterpreted parameters of Config (00_scope.md
rules R5, R6; 10_state.md rule R51). -/

namespace Sys2Proof.Machine

/-- A piece of memory: addresses and bytes, addresses strictly rising (Machine/Memory.lean). An address
that is not listed has no value of the model's (assumption log 33). -/
abbrev Memory := List (Nat × BitVec 8)

/-- The processor state that the T and J bits of the CPSR name (60_exceptions.md rule R285). -/
inductive Isa where
  /-- ARM state -/
  | arm
  /-- Thumb state -/
  | thumb
  /-- Jazelle state -/
  | jazelle
  /-- the remaining combination of J and T, to which the spec gives no state -/
  | other
deriving DecidableEq, Repr, Inhabited

/-- The software debug events (60_exceptions.md rule R271). -/
inductive DebugEventKind where
  /-- a vector catch occurs -/
  | vectorCatch
  /-- a breakpoint hits -/
  | breakpoint
  /-- a watchpoint hits -/
  | watchpoint
  /-- a BKPT instruction is executed -/
  | bkpt
deriving DecidableEq, Repr

/-- The core's registers (10_state.md rule R51) and the parts of its state that the permissions of
00_scope.md rule R6 depend on. -/
structure CoreRegs where
  /-- R0 to R14 of every mode, laid out as Machine/ArmExec.lean `gprIndex` says (log 30) -/
  gpr : Vector Word 32
  /-- the SPSR of every mode that has one (log 30) -/
  spsr : Vector Word 6
  /-- the program counter: the address at which execution resumes (10_state.md rule R52) -/
  pc : Word
  /-- the CPSR -/
  cpsr : Word
  /-- the address of the last instruction committed for execution (41_scan_chains.md rule R181) -/
  committed : Word
  /-- the processor state that instruction ran in, which its PC sample names (41_scan_chains.md rule R181) -/
  committedIsa : Isa
  /-- the core is in the Non-secure world (42_debug_execution.md rule R198) -/
  nonSecure : Bool
  /-- the SUIDEN bit (60_exceptions.md rule R286) -/
  suiden : Bool
  /-- the model's own: which byte of a word lies lowest in memory, left open by rule R77 (log 33) -/
  bigEndian : Bool
  /-- the registers of the coprocessors, under an uninterpreted coding (log 54) -/
  coproc : Nat
deriving DecidableEq, Repr, Inhabited

/-- What a step of the core's own software does: all its registers afterwards, and its byte stores. -/
structure CoreEffect where
  /-- the registers after the step -/
  regs : CoreRegs
  /-- the bytes stored, in order -/
  stores : List (Word × Byte)
deriving DecidableEq, Repr, Inhabited

/-- How an issued instruction ends (42_debug_execution.md rule R192). -/
inductive CoreOutcome where
  /-- it completes -/
  | done
  /-- it ends in a precise Data Abort -/
  | preciseAbort
  /-- it ends in an Undefined exception -/
  | undefined
deriving DecidableEq, Repr, Inhabited

/-- What a coprocessor transfer may change beside its general register: the registers of the
coprocessors, CP14 and CP15 among them (10_state.md rule R51; assumption log 54). -/
structure CoprocState where
  /-- the registers of the coprocessors, `CoreRegs.coproc` -/
  coproc : Nat
  /-- the core is in the Non-secure world -/
  nonSecure : Bool
  /-- the SUIDEN bit -/
  suiden : Bool
  /-- the byte order of the core's accesses -/
  bigEndian : Bool
  /-- the vector catch register of CP14 -/
  vcr : Word
  /-- the BVRs of CP14 -/
  bvr : Vector Word 6
  /-- the BCRs of CP14 -/
  bcr : Vector Word 6
  /-- the WVRs of CP14 -/
  wvr : Vector Word 2
  /-- the WCRs of CP14 -/
  wcr : Vector Word 2
deriving DecidableEq, Repr, Inhabited

/-- What a coprocessor transfer may look at beside its general register (assumption log 54). -/
structure CoprocView where
  /-- the registers of the coprocessors -/
  state : CoprocState
  /-- the DIDR, CP14 debug register 0 -/
  didr : Word
  /-- the DSCR, CP14 debug register 1 -/
  dscr : Word
  /-- the CPSR, whose mode bits are the privilege of the access (42_debug_execution.md rule R198) -/
  cpsr : Word
  /-- the SPIDEN pin (60_exceptions.md rule R286) -/
  spiden : Bool
deriving DecidableEq, Repr, Inhabited

/-- What the parameter `CoreExec` may look at (42_debug_execution.md rule R192). -/
structure CoreQuery where
  /-- the word executed -/
  word : Word
  /-- the core's registers -/
  regs : CoreRegs
  /-- the core's memory -/
  mem : Memory
  /-- the rDTR and its flag -/
  rdtr : Word
  /-- `rDTRempty` -/
  rdtrEmpty : Bool
  /-- the wDTR and its flag -/
  wdtr : Word
  /-- `wDTRfull` -/
  wdtrFull : Bool
  /-- the coprocessors, the debug registers and SPIDEN (60_exceptions.md rule R286) -/
  view : CoprocView
  /-- the processor state at entry to Debug state, on which what a word that reads the PC gets may depend
  (10_state.md rule R52; assumption log 37) -/
  entryIsa : Isa
  /-- whether the memory system aborts a data access of the word -/
  abort : Bool
deriving DecidableEq, Repr

/-- What the parameter `CoreExec` answers. The registers of CP14 that rule R51 of 10_state.md holds inside it are
among them; the DSCR is not (assumption log 54). -/
structure CoreAnswer where
  /-- the core's registers and stores -/
  effect : CoreEffect
  /-- the vector catch register -/
  vcr : Word
  /-- the BVRs -/
  bvr : Vector Word 6
  /-- the BCRs -/
  bcr : Vector Word 6
  /-- the WVRs -/
  wvr : Vector Word 2
  /-- the WCRs -/
  wcr : Vector Word 2
  /-- the word written to the wDTR, if any -/
  wdtrWrite : Option Word
  /-- whether the rDTR is read -/
  rdtrRead : Bool
  /-- how the instruction ends -/
  outcome : CoreOutcome
deriving DecidableEq, Repr, Inhabited

end Sys2Proof.Machine
end

