-- ==== Sys2Proof/Config.lean ====
section
/-! DEFINITION. The uninterpreted parameters of the spec (00_scope.md rule R6) and the free values
(00_scope.md rule R9 `draw`). None has a body: no proof can learn a value of one. The parameters that
are plain data (ID_VERSION, ID_MANUFACTURER, DIDR_VALUE, DSCR_TAP_WMASK, the truth tables of the two
permissions) are the field `cfg` of State (assumption log 6, 51). -/

namespace Sys2Proof.Config

open Sys2Proof.Machine

/-- The k-th open value of a run, `draw(N)` of rule R9 (assumption log 2). -/
opaque draw : Nat → BitVec 40

/-- `CoreExec`: what an ARM word does to which the spec gives no effect (rules R5, R6; log 31, 32). -/
opaque coreExec : CoreQuery → CoreAnswer

/-- The exception the core takes for a software debug event in Monitor debug-mode, not in the source
(60_exceptions.md rule R279; log 26). -/
opaque monitorException : DebugEventKind → CoreRegs → CoreEffect

/-- What a generic coprocessor read puts in R0, and the coprocessors afterwards; none where the word is
Undefined (42_debug_execution.md rule R206, 43_macros_sequences.md rule R255; log 54). -/
opaque coprocRead : Word → CoprocView → Option (Word × CoprocState)

/-- The coprocessors after a generic write of a value from R0; none where the word is Undefined (42_debug_execution.md
rule R206, 43_macros_sequences.md rule R255; log 54). -/
opaque coprocWrite : Word → CoprocView → Word → Option CoprocState

/-- A byte of the core's memory that the model has no value for (log 33). -/
opaque memoryByte : Nat → Byte

/-- The four CPSR flags after `MRC p14,0,R15,c0,c5,0`, from the rDTR and the CPSR (log 35). -/
opaque mrcFlags : Word → Word → BitVec 4

/-- What `MOV R0,PC` reads, from the PC, if the state at entry was none the spec names (log 37). -/
opaque pcReadOther : Word → Word

/-- A PC sample in the state to which the spec gives no form, from the committed address (log 41). -/
opaque pcSampleOther : Word → Word

/-- `ETM.capture()` of 41_scan_chains.md rule R172: the 40 bits captured (log 40). -/
opaque etmCapture : Nat → BitVec 40

/-- The ETM's state after a capture. -/
opaque etmAfterCapture : Nat → Nat

/-- `ETM.access(nRW, addr, data)` of rule R172: the ETM's state after the access. -/
opaque etmAccess : Nat → Bool → BitVec 7 → Word → Nat

/-- The ETM's state after a step of its own (00_scope.md rule R10). -/
opaque etmStep : Nat → Nat

end Sys2Proof.Config
end

