-- ==== Sys2Proof/Machine/State.lean ====
section
/-! DEFINITION. The state of the port, of the debug unit's registers, and of the core as the port sees
it (10_state.md rules R20 to R57), plain data; the reasons a step can stop; the state after reset. -/

namespace Sys2Proof.Machine

/-- No step of the machine raises a fault: "The DBGTAP controller itself raises no exception"
(60_exceptions.md rule R284), and every address of the core's 32-bit space exists. The type is empty. -/
inductive Fault where
deriving DecidableEq, Repr

/-- The steps to which the spec gives no meaning, `refuse(Uk)` of 93_implementation_defined.md. Each is
safe: the model stops where the hardware goes on in a way the spec does not give. -/
inductive Refusal where
  /-- raised by exec's arm of an instruction that has no meaning yet; safe -/
  | notModelled (mnemonic : String)
  /-- U1: raised by an EXTEST update of scan chain 1 that would set DSCR[13] while the core is not in
  Debug state ("leads to Unpredictable behavior"); safe -/
  | u1ExecEnableSetOutsideDebug
  /-- U2: raised by the restart step that would leave Debug state with DSCR[13] = 1 ("is
  Unpredictable"); safe -/
  | u2RestartWithExecEnable
  /-- U4: raised by an EXTEST update of scan chain 1 that would clear DSCR[13] while an instruction is in
  flight ("the behavior of the core is Unpredictable"); safe -/
  | u4ExecEnableClearedInFlight
  /-- U6: raised at Update-DR of scan chain 7 by a request to a reserved register ("generates
  Unpredictable behavior"), and by completing one; safe -/
  | u6ReservedRequest
  /-- U10: raised by a DR scan of scan chain 2 or 3, which nothing describes; safe -/
  | u10UndescribedChain
  /-- U11: raised by a DR scan of scan chains 8 to 15 ("These scan chains are reserved"); safe -/
  | u11ReservedChain
  /-- U12: raised by a DR scan of scan chains 16 to 31 ("These scan chains are unassigned"); safe -/
  | u12UnassignedChain
  /-- U13: raised by entering Run-Test/Idle with Restart current while the core is not in Debug state; safe -/
  | u13RestartOutsideDebug
  /-- U14: raised by entering Run-Test/Idle with every condition for issue true and an instruction still
  in flight (a stale Ready latch); safe -/
  | u14StaleReady
  /-- raised by a software debug event that neither halts the core nor is taken in Monitor debug-mode
  (60_exceptions.md rule R271, "not in this source"); safe -/
  | debugEventUndescribed
deriving DecidableEq, Repr

/-- What a step answers. -/
abbrev Result (σ : Type) := Host.Outcome σ Fault Refusal

/-- The sixteen states of the DBGTAPSM (10_state.md rule R21; assumption log 4). -/
inductive TapState where
  /-- Test-Logic-Reset -/
  | testLogicReset
  /-- Run-Test/Idle -/
  | runTestIdle
  /-- Select-DR-Scan -/
  | selectDr
  /-- Capture-DR -/
  | captureDr
  /-- Shift-DR -/
  | shiftDr
  /-- Exit1-DR -/
  | exit1Dr
  /-- Pause-DR -/
  | pauseDr
  /-- Exit2-DR -/
  | exit2Dr
  /-- Update-DR -/
  | updateDr
  /-- Select-IR-Scan -/
  | selectIr
  /-- Capture-IR -/
  | captureIr
  /-- Shift-IR -/
  | shiftIr
  /-- Exit1-IR -/
  | exit1Ir
  /-- Pause-IR -/
  | pauseIr
  /-- Exit2-IR -/
  | exit2Ir
  /-- Update-IR -/
  | updateIr
deriving DecidableEq, Repr

/-- A scan chain 7 request (10_state.md rule R45). -/
structure Request where
  /-- Address[6:0] -/
  address : BitVec 7
  /-- Data[31:0] -/
  data : Word
  /-- true = write, false = read -/
  write : Bool
deriving DecidableEq, Repr

/-- The values a processor reset leaves where the source gives none (70_reset_and_hazards.md rules
R312, R313; assumption log 28). -/
structure ProcessorResetValues where
  /-- the DSCR's stored bits; bits 13, 14 and 15 are forced to 0 -/
  dscr : Word
  /-- DSCR[1] -/
  coreRestarted : Bool
  /-- the ITR -/
  itr : Word
  /-- the rDTR -/
  rdtr : Word
  /-- `rDTRempty` -/
  rdtrEmpty : Bool
  /-- the wDTR -/
  wdtr : Word
  /-- `wDTRfull` -/
  wdtrFull : Bool
  /-- the VCR, disabled -/
  vcr : Word
  /-- the BVRs -/
  bvr : Vector Word 6
  /-- the BCRs, disabled -/
  bcr : Vector Word 6
  /-- the WVRs -/
  wvr : Vector Word 2
  /-- the WCRs, disabled -/
  wcr : Vector Word 2
  /-- the core's registers and stores -/
  core : CoreEffect
deriving DecidableEq, Repr

/-- An access of the DCC by software running on the core (42_debug_execution.md rules R199, R200, R202). -/
inductive DccOp where
  /-- `MCR p14,0,Rd,c0,c5,0`: Rd to the wDTR -/
  | mcr (rd : BitVec 4)
  /-- `MRC p14,0,Rd,c0,c5,0`: the rDTR to Rd -/
  | mrc (rd : BitVec 4)
  /-- `LDC p14,c5,[R0],#4`: the word at R0 to the wDTR -/
  | ldc
  /-- `STC p14,c5,[R0],#4`: the rDTR to the word at R0 -/
  | stc
  /-- `MRC p14,0,Rd,c0,c1,0`: the DSCR to Rd -/
  | readDscr (rd : BitVec 4)
deriving DecidableEq, Repr

/-- What happens next outside the controller's control: a TCK cycle of the debugger, a pin, or one step
of another agent (00_scope.md rules R9, R10; 10_state.md rules R22, R53; assumption log 1). -/
inductive Input where
  /-- one TCK cycle with the mode-select input and DBGTDI (rule R22) -/
  | tck (tms tdi : Bool)
  /-- DBGnTRST becomes asserted or deasserted (rule R310) -/
  | trst (asserted : Bool)
  /-- DBGEN -/
  | dbgen (level : Bool)
  /-- SPIDEN -/
  | spiden (level : Bool)
  /-- EDBGRQ (rule R272) -/
  | edbgrq (asserted : Bool)
  /-- one step of the scan chain 7 request engine (rules R176, R177) -/
  | engine
  /-- one step of the Embedded Trace Macrocell -/
  | etm
  /-- the halt step of the core (rule R273) -/
  | coreHalt
  /-- the restart step of the core (rule R283) -/
  | coreRestart
  /-- the completion of the instruction in flight (rule R192); the memory system aborts its data access,
  if it makes one, when the argument says so -/
  | coreComplete (abort : Bool)
  /-- a step of the core's own software outside Debug state, with the value rule R157 (d) lets it put in DSCR[6] -/
  | coreRuns (effect : CoreEffect) (dscr6 : Option Bool)
  /-- running software accesses the DCC (rules R199, R200, R202); the memory system aborts the data access of
  LDC or STC when the argument says so -/
  | softwareDcc (op : DccOp) (abort : Bool)
  /-- a software debug event (rule R271) -/
  | softwareDebugEvent (kind : DebugEventKind)
  /-- an interrupt of the core, with what taking it does to the core (rule R281) -/
  | interrupt (taken : CoreEffect)
  /-- a memory access of the core leaves an imprecise Data Abort pending (rule R277), after which R0 and memory
  "are not to be trusted": the arguments say what they hold -/
  | impreciseAbortArises (r0 : Word) (stores : List (Word × Byte))
  /-- the core recognises a pending imprecise Data Abort (rule R277) -/
  | impreciseAbortRecognised
  /-- the core sets DSCR[19] (10_state.md rule R42) -/
  | coreSetsDscr19
  /-- the processor is reset (rule R312) -/
  | processorReset (values : ProcessorResetValues)
deriving DecidableEq, Repr

/-- The controller (10_state.md rule R20). -/
structure Controller where
  /-- the state machine's position (rule R21) -/
  tap : TapState
  /-- the instruction register (rule R23) -/
  ir : BitVec 5
  /-- its shift section -/
  irs : BitVec 5
  /-- the scan chain select register (rule R24) -/
  screg : BitVec 5
  /-- its shift section -/
  scs : BitVec 5
  /-- the bypass register (rule R25) -/
  byp : Bool
  /-- the device ID shift section (rule R26) -/
  ids : BitVec 32
  /-- the shift section of scan chain 0 (rule R28) -/
  s0 : BitVec 40
  /-- of scan chain 1 -/
  s1 : BitVec 32
  /-- of scan chain 4 -/
  s4 : BitVec 33
  /-- of scan chain 5 -/
  s5 : BitVec 34
  /-- of scan chain 6 -/
  s6 : BitVec 40
  /-- of scan chain 7 -/
  s7 : BitVec 40
  /-- `InstCompl` as captured at the last Capture-DR (rule R29) -/
  ready : Bool
  /-- `rDTRempty` as captured by the last capture of chain 5 -/
  nRetry : Bool
  /-- `wDTRfull` as captured by the last capture of chain 5 -/
  valid : Bool
  /-- `ReqCompl` as captured by the last capture of chain 7 -/
  reqReady : Bool
  /-- what DBGTDO carried during the last TCK cycle, if it had a value (rule R22 A) -/
  tdo : Option Bool
deriving DecidableEq, Repr

/-- The debug unit's registers and flags (10_state.md rules R31 to R49). -/
structure DebugUnit where
  /-- the stored bits of the DSCR; bits 0, 1, 29 and 30 are kept elsewhere and are 0 here (rules R35, R57) -/
  dscrBits : Word
  /-- DSCR[1], the core restarted bit (rule R37) -/
  coreRestarted : Bool
  /-- the Instruction Transfer Register (rule R31) -/
  itr : Word
  /-- `InstCompl` (rule R32) -/
  instCompl : Bool
  /-- the rDTR (rule R33) -/
  rdtr : Word
  /-- `rDTRempty` -/
  rdtrEmpty : Bool
  /-- the wDTR (rule R34) -/
  wdtr : Word
  /-- `wDTRfull` -/
  wdtrFull : Bool
  /-- the pending scan chain 7 request; `ReqCompl` is 1 exactly when there is none (rules R45, R57 e) -/
  req : Option Request
  /-- the result a completed read leaves for the next capture (rule R45) -/
  rdData : Option Word
  /-- the vector catch register (rule R46) -/
  vcr : Word
  /-- the breakpoint value registers (rule R48) -/
  bvr : Vector Word 6
  /-- the breakpoint control registers -/
  bcr : Vector Word 6
  /-- the watchpoint value registers (rule R49) -/
  wvr : Vector Word 2
  /-- the watchpoint control registers -/
  wcr : Vector Word 2
deriving DecidableEq, Repr

/-- The core as the port sees it (10_state.md rules R50 to R52). -/
structure CoreSide where
  /-- the core is in Debug state -/
  debugState : Bool
  /-- a Halt request not yet acted on -/
  haltReq : Bool
  /-- a Restart request not yet complete -/
  restartReq : Bool
  /-- the word issued from the ITR and not yet completed -/
  inFlight : Option Word
  /-- the processor state at the last entry to Debug state (rule R52; assumption log 37) -/
  entryIsa : Isa
  /-- imprecise Data Aborts pending in the memory system (60_exceptions.md rule R277; log 38) -/
  pendingAborts : Nat
  /-- a barrier has drained the write buffer and no memory access has followed it (log 38) -/
  drained : Bool
  /-- the core's registers -/
  regs : CoreRegs
  /-- the core's memory -/
  mem : Memory
deriving DecidableEq, Repr

/-- The input pins that keep a level between TCK cycles (10_state.md rule R53). -/
structure Pins where
  /-- DBGnTRST is asserted -/
  trst : Bool
  /-- EDBGRQ is asserted -/
  edbgrq : Bool
  /-- DBGEN is asserted -/
  dbgen : Bool
  /-- SPIDEN is asserted -/
  spiden : Bool
deriving DecidableEq, Repr

/-- The parameters of 00_scope.md rule R6 that are plain data. No step changes them (assumption log 6). -/
structure Params where
  /-- ID_VERSION -/
  idVersion : BitVec 4
  /-- ID_MANUFACTURER -/
  idManufacturer : BitVec 11
  /-- DIDR_VALUE -/
  didr : Word
  /-- DSCR_TAP_WMASK, of which the model uses what rule R6 allows (Machine/Flags.lean `tapWriteMask`) -/
  tapWriteMask : Word
  /-- `DebugPermitted` as a truth table: one row for each value of DBGEN, SPIDEN, SUIDEN and the security state,
  in it one bit for each mode (Machine/Flags.lean `State.permitsMode`; assumption log 51) -/
  debugPermitted : Vector (BitVec 32) 16
  /-- `NonInvasivePermitted`, in the same form -/
  nonInvasivePermitted : Vector (BitVec 32) 16
  /-- the modes an issued MSR may change to, "permitted by the SPIDEN signal and SUIDEN bit", in the same form
  (42_debug_execution.md rule R198; assumption log 36) -/
  modePermitted : Vector (BitVec 32) 16
  /-- the word `NOP` stands for in 43_macros_sequences.md rule R242, which the source does not encode
  (assumption log 38) -/
  nopWord : Word
deriving DecidableEq, Repr

/-- The model's own: what happens next, and where open values come from (assumption log 1, 2). -/
structure Environment where
  /-- the inputs to come, the next one first -/
  inputs : List Input
  /-- open values supplied from outside, used first -/
  draws : List (BitVec 40)
  /-- how many open values the run has used -/
  drawCount : Nat
deriving DecidableEq, Repr

/-- The whole machine. -/
structure State where
  /-- the controller -/
  ctl : Controller
  /-- the debug unit -/
  dbg : DebugUnit
  /-- the core -/
  core : CoreSide
  /-- the pins -/
  pins : Pins
  /-- the parameters -/
  cfg : Params
  /-- the Embedded Trace Macrocell, under an uninterpreted coding (rule R54; assumption log 40) -/
  etm : Nat
  /-- inputs and open values -/
  env : Environment
deriving DecidableEq, Repr

/-- The core's registers at reset (assumption log 30, 33, 54). -/
def CoreRegs.reset : CoreRegs where
  gpr := Vector.replicate 32 0
  spsr := Vector.replicate 6 0
  pc := 0
  cpsr := 0x000001D3
  committed := 0
  committedIsa := .arm
  nonSecure := false
  suiden := false
  bigEndian := false
  coproc := 0

/-- The state a model starts from (70_reset_and_hazards.md rules R311, R313; 10_state.md rule R55). A
register the spec gives no reset value holds the value of assumption log 29, 30 or 51. -/
def State.reset : State where
  ctl :=
    { tap := .testLogicReset, ir := 0b11110, irs := 0, screg := 0b00011, scs := 0, byp := false
      ids := 0, s0 := 0, s1 := 0, s4 := 0, s5 := 0, s6 := 0, s7 := 0
      ready := false, nRetry := false, valid := false, reqReady := false, tdo := none }
  dbg :=
    { dscrBits := 0, coreRestarted := false, itr := 0, instCompl := true
      rdtr := 0, rdtrEmpty := true, wdtr := 0, wdtrFull := false
      req := none, rdData := none, vcr := 0
      bvr := Vector.replicate 6 0, bcr := Vector.replicate 6 0
      wvr := Vector.replicate 2 0, wcr := Vector.replicate 2 0 }
  core :=
    { debugState := false, haltReq := false, restartReq := false, inFlight := none
      entryIsa := .arm, pendingAborts := 0, drained := false
      regs := CoreRegs.reset, mem := [] }
  pins := { trst := false, edbgrq := false, dbgen := true, spiden := false }
  cfg :=
    { idVersion := 0, idManufacturer := 0b11110000111, didr := 0, tapWriteMask := 0x00006000
      debugPermitted :=
        Vector.replicate 8 (0 : BitVec 32) ++ Vector.replicate 8 (0xFFFFFFFF : BitVec 32)
      nonInvasivePermitted := Vector.replicate 16 0xFFFFFFFF
      modePermitted := Vector.replicate 16 0xFFFFFFFF, nopWord := 0xE1A00000 }
  etm := 0
  env := { inputs := [], draws := [], drawCount := 0 }

end Sys2Proof.Machine
end

