-- ==== Sys2Proof/Machine/Memory.lean ====
section
/-! DEFINITION. The core's memory, reached only by instructions the core executes (20_memory.md rule
R74). The port fixes nothing of the memory map (rule R74), so every address of the 32-bit space exists.
An address that is not listed has no value of the model's: an instruction that loads it gets the free
value `Config.memoryByte` (assumption log 33). -/

namespace Sys2Proof.Machine

/-- The byte at an address, if the model holds one. -/
def Memory.read : Memory → Nat → Option Byte
  | [], _ => none
  | (b, v) :: m, a => if a = b then some v else if a < b then none else Memory.read m a

/-- The memory after the byte `v` is stored at `a`. -/
def Memory.write : Memory → Nat → Byte → Memory
  | [], a, v => [(a, v)]
  | (b, w) :: m, a, v =>
    if a = b then (a, v) :: m
    else if a < b then (a, v) :: (b, w) :: m
    else (b, w) :: Memory.write m a v

/-- Byte stores, in order. -/
def Memory.writeAll : Memory → List (Word × Byte) → Memory
  | m, [] => m
  | m, (a, v) :: rest => Memory.writeAll (Memory.write m a.toNat v) rest

/-- The canonical form: addresses strictly rising. -/
def Memory.rising : Memory → Bool
  | [] => true
  | [_] => true
  | (a, _) :: (b, w) :: m => decide (a < b) && Memory.rising ((b, w) :: m)

/-- The canonical form, within the 32-bit address space. -/
def Memory.wf (m : Memory) : Bool :=
  Memory.rising m && m.all (fun c => decide (c.1 < 2 ^ 32))

/-- The byte a load gets: the one the model holds, else a free value (assumption log 33). -/
def Memory.loadByte (m : Memory) (a : Word) : Byte :=
  match Memory.read m a.toNat with
  | some b => b
  | none => Config.memoryByte a.toNat

/-- The byte lane of offset `i` in an access of `n` bytes: rule R77 leaves the byte order open, and
`bigEndian` says which of the two holds (assumption log 33). -/
def byteLane (bigEndian : Bool) (n i : Nat) : Nat :=
  if bigEndian then n - 1 - i else i

/-- A word loaded from four bytes. -/
def Memory.loadWord (m : Memory) (bigEndian : Bool) (a : Word) : Word :=
  if bigEndian then
    m.loadByte a ++ (m.loadByte (a + 1) ++ (m.loadByte (a + 2) ++ m.loadByte (a + 3)))
  else
    m.loadByte (a + 3) ++ (m.loadByte (a + 2) ++ (m.loadByte (a + 1) ++ m.loadByte a))

/-- A halfword loaded from two bytes. -/
def Memory.loadHalf (m : Memory) (bigEndian : Bool) (a : Word) : BitVec 16 :=
  if bigEndian then m.loadByte a ++ m.loadByte (a + 1) else m.loadByte (a + 1) ++ m.loadByte a

/-- The byte of a word that a store puts at offset `i` of `n` bytes; the bytes stored are the word's low `n`
(PRESUMED for a halfword and a byte, assumption log 34). -/
def laneByte (bigEndian : Bool) (n : Nat) (v : Word) (i : Nat) : Byte :=
  v.extractLsb' (8 * byteLane bigEndian n i) 8

/-- The byte stores of an `n`-byte access at `a`. -/
def storeBytes (bigEndian : Bool) (n : Nat) (a v : Word) : List (Word × Byte) :=
  (List.range n).map (fun i => (a + BitVec.ofNat 32 i, laneByte bigEndian n v i))

end Sys2Proof.Machine
end

