-- ==== Sys2Proof/Syntax.lean ====
section
/-! DEFINITION. The words of the port and its instructions: one constructor of `Instr` per row of
spec/opcode_table.json (30_encoding.md rules R102, R115, R114, R120). -/

namespace Sys2Proof

/-- The three kinds of word of the opcode table (30_encoding.md rule R120). -/
inductive Format where
  /-- a code of the instruction register -/
  | ir5
  /-- a scan chain number of SCREG -/
  | screg5
  /-- a request frame of scan chain 7 -/
  | sc7req
deriving DecidableEq, Repr

/-- A word together with the register it stands in. The same five bits mean a different row in the
instruction register and in SCREG (30_encoding.md rules R102, R115), so the register is part of the word. -/
inductive Frame where
  /-- the value of `IR[4:0]` -/
  | ir5 (code : BitVec 5)
  /-- the value of `SCREG[4:0]`, or the 4 that ITRsel puts in its place -/
  | screg5 (number : BitVec 5)
  /-- the 40 bits `Address[6:0] : Data[31:0] : nRW` of scan chain 7 (30_encoding.md rule R113) -/
  | sc7req (request : BitVec 40)
deriving DecidableEq, Repr

/-- The kind of a word. -/
def Frame.format : Frame → Format
  | .ir5 _ => .ir5
  | .screg5 _ => .screg5
  | .sc7req _ => .sc7req

/-- The instructions, one constructor per row of spec/opcode_table.json. An IR5 row has no operand
(30_encoding.md rule R100). A SCREG5 row that stands for a range holds the low bits of the number. A
SC7REQ row holds the Data field and the read/write bit (true = write), and, where it stands for a
range of addresses, the Address field. -/
inductive Instr where
  /-- EXTEST, IR code 0: 40_tap_instructions.md rule R132 -/
  | extest
  /-- RESERVED_0x01, IR code 1: acts as BYPASS (rules R103, R139) -/
  | reserved01
  /-- SCAN_N, IR code 2: 40_tap_instructions.md rule R133 -/
  | scanN
  /-- RESERVED_0x03, IR code 3: acts as BYPASS (rules R103, R139) -/
  | reserved03
  /-- RESTART, IR code 4: 40_tap_instructions.md rule R134 -/
  | restart
  /-- RESERVED_0x05, IR code 5: acts as BYPASS (rules R103, R139) -/
  | reserved05
  /-- RESERVED_0x06, IR code 6: acts as BYPASS (rules R103, R139) -/
  | reserved06
  /-- RESERVED_0x07, IR code 7: acts as BYPASS (rules R103, R139) -/
  | reserved07
  /-- HALT, IR code 8: 40_tap_instructions.md rule R135 -/
  | halt
  /-- RESERVED_0x09, IR code 9: acts as BYPASS (rules R103, R139) -/
  | reserved09
  /-- RESERVED_0x0A, IR code 10: acts as BYPASS (rules R103, R139) -/
  | reserved0A
  /-- RESERVED_0x0B, IR code 11: acts as BYPASS (rules R103, R139) -/
  | reserved0B
  /-- INTEST, IR code 12: 40_tap_instructions.md rule R136 -/
  | intest
  /-- RESERVED_0x0D, IR code 13: acts as BYPASS (rules R103, R139) -/
  | reserved0D
  /-- RESERVED_0x0E, IR code 14: acts as BYPASS (rules R103, R139) -/
  | reserved0E
  /-- RESERVED_0x0F, IR code 15: acts as BYPASS (rules R103, R139) -/
  | reserved0F
  /-- RESERVED_0x10, IR code 16: acts as BYPASS (rules R103, R139) -/
  | reserved10
  /-- RESERVED_0x11, IR code 17: acts as BYPASS (rules R103, R139) -/
  | reserved11
  /-- RESERVED_0x12, IR code 18: acts as BYPASS (rules R103, R139) -/
  | reserved12
  /-- RESERVED_0x13, IR code 19: acts as BYPASS (rules R103, R139) -/
  | reserved13
  /-- RESERVED_0x14, IR code 20: acts as BYPASS (rules R103, R139) -/
  | reserved14
  /-- RESERVED_0x15, IR code 21: acts as BYPASS (rules R103, R139) -/
  | reserved15
  /-- RESERVED_0x16, IR code 22: acts as BYPASS (rules R103, R139) -/
  | reserved16
  /-- RESERVED_0x17, IR code 23: acts as BYPASS (rules R103, R139) -/
  | reserved17
  /-- RESERVED_0x18, IR code 24: acts as BYPASS (rules R103, R139) -/
  | reserved18
  /-- RESERVED_0x19, IR code 25: acts as BYPASS (rules R103, R139) -/
  | reserved19
  /-- RESERVED_0x1A, IR code 26: acts as BYPASS (rules R103, R139) -/
  | reserved1A
  /-- RESERVED_0x1B, IR code 27: acts as BYPASS (rules R103, R139) -/
  | reserved1B
  /-- RESERVED_0x1C, IR code 28: acts as BYPASS (rules R103, R139) -/
  | reserved1C
  /-- ITRSEL, IR code 29: 40_tap_instructions.md rule R137 -/
  | itrsel
  /-- IDCODE, IR code 30: 40_tap_instructions.md rule R138 -/
  | idcode
  /-- BYPASS, IR code 31: 40_tap_instructions.md rule R139 -/
  | bypass
  /-- CHAIN0_DIDR: 41_scan_chains.md rule R152 -/
  | chain0Didr
  /-- CHAIN1_DSCR: 41_scan_chains.md rule R154 -/
  | chain1Dscr
  /-- CHAIN2_3_UNDESCRIBED: 41_scan_chains.md rule R183 -/
  | chain2To3 (low : BitVec 1)
  /-- CHAIN4_ITR: 41_scan_chains.md rule R158 -/
  | chain4Itr
  /-- CHAIN5_DTR: 41_scan_chains.md rule R161 -/
  | chain5Dtr
  /-- CHAIN6_ETM: 41_scan_chains.md rule R172 -/
  | chain6Etm
  /-- CHAIN7_DEBUG_REGS: 41_scan_chains.md rule R173 -/
  | chain7DebugRegs
  /-- CHAIN8_15_RESERVED: 41_scan_chains.md rule R184 -/
  | chain8To15 (low : BitVec 3)
  /-- CHAIN16_31_UNASSIGNED: 41_scan_chains.md rule R185 -/
  | chain16To31 (low : BitVec 4)
  /-- NULL: scan chain 7 address 0 (30_encoding.md rule R114) -/
  | null (data : Word) (write : Bool)
  /-- RESERVED_1_6: scan chain 7 addresses 1 to 6 (30_encoding.md rule R114) -/
  | reserved1To6 (address : BitVec 7) (data : Word) (write : Bool)
  /-- VCR: scan chain 7 address 7 (30_encoding.md rule R114) -/
  | vcr (data : Word) (write : Bool)
  /-- PC: scan chain 7 address 8 (30_encoding.md rule R114) -/
  | pc (data : Word) (write : Bool)
  /-- NOROW_9_18: scan chain 7 addresses 9 to 18 (30_encoding.md rule R114) -/
  | norow9To18 (address : BitVec 7) (data : Word) (write : Bool)
  /-- RESERVED_19_63: scan chain 7 addresses 19 to 63 (30_encoding.md rule R114) -/
  | reserved19To63 (address : BitVec 7) (data : Word) (write : Bool)
  /-- BVR0: scan chain 7 address 64 (30_encoding.md rule R114) -/
  | bvr0 (data : Word) (write : Bool)
  /-- BVR1: scan chain 7 address 65 (30_encoding.md rule R114) -/
  | bvr1 (data : Word) (write : Bool)
  /-- BVR2: scan chain 7 address 66 (30_encoding.md rule R114) -/
  | bvr2 (data : Word) (write : Bool)
  /-- BVR3: scan chain 7 address 67 (30_encoding.md rule R114) -/
  | bvr3 (data : Word) (write : Bool)
  /-- BVR4: scan chain 7 address 68 (30_encoding.md rule R114) -/
  | bvr4 (data : Word) (write : Bool)
  /-- BVR5: scan chain 7 address 69 (30_encoding.md rule R114) -/
  | bvr5 (data : Word) (write : Bool)
  /-- RESERVED_70_79: scan chain 7 addresses 70 to 79 (30_encoding.md rule R114) -/
  | reserved70To79 (address : BitVec 7) (data : Word) (write : Bool)
  /-- BCR0: scan chain 7 address 80 (30_encoding.md rule R114) -/
  | bcr0 (data : Word) (write : Bool)
  /-- BCR1: scan chain 7 address 81 (30_encoding.md rule R114) -/
  | bcr1 (data : Word) (write : Bool)
  /-- BCR2: scan chain 7 address 82 (30_encoding.md rule R114) -/
  | bcr2 (data : Word) (write : Bool)
  /-- BCR3: scan chain 7 address 83 (30_encoding.md rule R114) -/
  | bcr3 (data : Word) (write : Bool)
  /-- BCR4: scan chain 7 address 84 (30_encoding.md rule R114) -/
  | bcr4 (data : Word) (write : Bool)
  /-- BCR5: scan chain 7 address 85 (30_encoding.md rule R114) -/
  | bcr5 (data : Word) (write : Bool)
  /-- RESERVED_86_95: scan chain 7 addresses 86 to 95 (30_encoding.md rule R114) -/
  | reserved86To95 (address : BitVec 7) (data : Word) (write : Bool)
  /-- WVR0: scan chain 7 address 96 (30_encoding.md rule R114) -/
  | wvr0 (data : Word) (write : Bool)
  /-- WVR1: scan chain 7 address 97 (30_encoding.md rule R114) -/
  | wvr1 (data : Word) (write : Bool)
  /-- RESERVED_98_111: scan chain 7 addresses 98 to 111 (30_encoding.md rule R114) -/
  | reserved98To111 (address : BitVec 7) (data : Word) (write : Bool)
  /-- WCR0: scan chain 7 address 112 (30_encoding.md rule R114) -/
  | wcr0 (data : Word) (write : Bool)
  /-- WCR1: scan chain 7 address 113 (30_encoding.md rule R114) -/
  | wcr1 (data : Word) (write : Bool)
  /-- RESERVED_114_127: scan chain 7 addresses 114 to 127 (30_encoding.md rule R114) -/
  | reserved114To127 (address : BitVec 7) (data : Word) (write : Bool)
deriving DecidableEq, Repr

end Sys2Proof
end

