-- ==== Sys2Proof/WellFormed.lean ====
section
/-! DEFINITION. Well-formedness of an instruction: the Address of a row that stands for a range of
scan chain 7 addresses lies in that range (30_encoding.md rule R114). -/

namespace Sys2Proof

/-- The address lies between `lo` and `hi`. -/
def addressIn (lo hi : Nat) (a : BitVec 7) : Bool :=
  decide (lo ≤ a.toNat) && decide (a.toNat ≤ hi)

/-- The check. Every other operand is valid at every value of its type. -/
def Instr.wellFormed : Instr → Bool
  | .extest => true
  | .reserved01 => true
  | .scanN => true
  | .reserved03 => true
  | .restart => true
  | .reserved05 => true
  | .reserved06 => true
  | .reserved07 => true
  | .halt => true
  | .reserved09 => true
  | .reserved0A => true
  | .reserved0B => true
  | .intest => true
  | .reserved0D => true
  | .reserved0E => true
  | .reserved0F => true
  | .reserved10 => true
  | .reserved11 => true
  | .reserved12 => true
  | .reserved13 => true
  | .reserved14 => true
  | .reserved15 => true
  | .reserved16 => true
  | .reserved17 => true
  | .reserved18 => true
  | .reserved19 => true
  | .reserved1A => true
  | .reserved1B => true
  | .reserved1C => true
  | .itrsel => true
  | .idcode => true
  | .bypass => true
  | .chain0Didr => true
  | .chain1Dscr => true
  | .chain2To3 _ => true
  | .chain4Itr => true
  | .chain5Dtr => true
  | .chain6Etm => true
  | .chain7DebugRegs => true
  | .chain8To15 _ => true
  | .chain16To31 _ => true
  | .null _ _ => true
  | .reserved1To6 a _ _ => addressIn 1 6 a
  | .vcr _ _ => true
  | .pc _ _ => true
  | .norow9To18 a _ _ => addressIn 9 18 a
  | .reserved19To63 a _ _ => addressIn 19 63 a
  | .bvr0 _ _ => true
  | .bvr1 _ _ => true
  | .bvr2 _ _ => true
  | .bvr3 _ _ => true
  | .bvr4 _ _ => true
  | .bvr5 _ _ => true
  | .reserved70To79 a _ _ => addressIn 70 79 a
  | .bcr0 _ _ => true
  | .bcr1 _ _ => true
  | .bcr2 _ _ => true
  | .bcr3 _ _ => true
  | .bcr4 _ _ => true
  | .bcr5 _ _ => true
  | .reserved86To95 a _ _ => addressIn 86 95 a
  | .wvr0 _ _ => true
  | .wvr1 _ _ => true
  | .reserved98To111 a _ _ => addressIn 98 111 a
  | .wcr0 _ _ => true
  | .wcr1 _ _ => true
  | .reserved114To127 a _ _ => addressIn 114 127 a

end Sys2Proof
end

