-- ==== Sys2Proof/Decode.lean ====
section
/-! DEFINITION. Decoding and encoding of the three kinds of word (30_encoding.md rules R102, R114,
R115). Decoding a word that stands in a register is total: every 5-bit code, every 5-bit number and
every 40-bit request is a row of the table. Reading a word from bytes rejects by name. -/

namespace Sys2Proof

/-- Table 14-1, complete over all 32 codes (30_encoding.md rules R102, R103). -/
def decodeIr (code : BitVec 5) : Instr :=
  match code.toNat with
  | 0x00 => .extest
  | 0x01 => .reserved01
  | 0x02 => .scanN
  | 0x03 => .reserved03
  | 0x04 => .restart
  | 0x05 => .reserved05
  | 0x06 => .reserved06
  | 0x07 => .reserved07
  | 0x08 => .halt
  | 0x09 => .reserved09
  | 0x0A => .reserved0A
  | 0x0B => .reserved0B
  | 0x0C => .intest
  | 0x0D => .reserved0D
  | 0x0E => .reserved0E
  | 0x0F => .reserved0F
  | 0x10 => .reserved10
  | 0x11 => .reserved11
  | 0x12 => .reserved12
  | 0x13 => .reserved13
  | 0x14 => .reserved14
  | 0x15 => .reserved15
  | 0x16 => .reserved16
  | 0x17 => .reserved17
  | 0x18 => .reserved18
  | 0x19 => .reserved19
  | 0x1A => .reserved1A
  | 0x1B => .reserved1B
  | 0x1C => .reserved1C
  | 0x1D => .itrsel
  | 0x1E => .idcode
  | _ => .bypass

/-- The scan chain numbers (30_encoding.md rule R115). -/
def decodeScreg (number : BitVec 5) : Instr :=
  match number.toNat with
  | 0 => .chain0Didr
  | 1 => .chain1Dscr
  | 2 => .chain2To3 0
  | 3 => .chain2To3 1
  | 4 => .chain4Itr
  | 5 => .chain5Dtr
  | 6 => .chain6Etm
  | 7 => .chain7DebugRegs
  | _ =>
    if number.getLsbD 4 then .chain16To31 (number.extractLsb' 0 4)
    else .chain8To15 (number.extractLsb' 0 3)

/-- Address[6:0], bits [39:33] of a request (30_encoding.md rule R113). -/
def requestAddress (r : BitVec 40) : BitVec 7 := r.extractLsb' 33 7

/-- Data[31:0], bits [32:1] of a request (30_encoding.md rule R113). -/
def requestData (r : BitVec 40) : Word := r.extractLsb' 1 32

/-- nRW, bit 0 of a request: 0 = read, 1 = write (30_encoding.md rule R113). -/
def requestWrite (r : BitVec 40) : Bool := r.getLsbD 0

/-- A request as one 40-bit number, `Address : Data : nRW` (30_encoding.md rule R113). -/
def requestFrame (a : BitVec 7) (d : Word) (w : Bool) : BitVec 40 :=
  (a ++ d) ++ BitVec.ofBool w

/-- The row of Table 14-2, as corrected, that holds an address (30_encoding.md rule R114). -/
def decodeAddress (a : BitVec 7) (d : Word) (w : Bool) : Instr :=
  match a.toNat with
  | 0 => .null d w
  | 7 => .vcr d w
  | 8 => .pc d w
  | 64 => .bvr0 d w
  | 65 => .bvr1 d w
  | 66 => .bvr2 d w
  | 67 => .bvr3 d w
  | 68 => .bvr4 d w
  | 69 => .bvr5 d w
  | 80 => .bcr0 d w
  | 81 => .bcr1 d w
  | 82 => .bcr2 d w
  | 83 => .bcr3 d w
  | 84 => .bcr4 d w
  | 85 => .bcr5 d w
  | 96 => .wvr0 d w
  | 97 => .wvr1 d w
  | 112 => .wcr0 d w
  | 113 => .wcr1 d w
  | n =>
    if n ≤ 6 then .reserved1To6 a d w
    else if n ≤ 18 then .norow9To18 a d w
    else if n ≤ 63 then .reserved19To63 a d w
    else if n ≤ 79 then .reserved70To79 a d w
    else if n ≤ 95 then .reserved86To95 a d w
    else if n ≤ 111 then .reserved98To111 a d w
    else .reserved114To127 a d w

/-- The row of a 40-bit request. -/
def decodeRequest (r : BitVec 40) : Instr :=
  decodeAddress (requestAddress r) (requestData r) (requestWrite r)

/-- Decoding of a word that stands in a register of the port: total (30_encoding.md rule R100). -/
def decode : Frame → Instr
  | .ir5 c => decodeIr c
  | .screg5 n => decodeScreg n
  | .sc7req r => decodeRequest r

/-- Why a list of bytes is no word of the port. -/
inductive DecodeError where
  /-- the bytes are neither one (IR5), nor two to four (SCREG5), nor five (SC7REQ) -/
  | wrongLength (bytes : Nat)
  /-- the bits above a 5-bit code or number are not all 0 -/
  | paddingNotZero
deriving DecidableEq, Repr

/-- The number whose bytes, lowest first, are listed. -/
def bytesToNat : List Byte → Nat
  | [] => 0
  | b :: bs => b.toNat + 256 * bytesToNat bs

/-- The low `n` bytes of a number, lowest first. -/
def natToBytes : Nat → Nat → List Byte
  | 0, _ => []
  | n + 1, w => BitVec.ofNat 8 w :: natToBytes n (w / 256)

/-- The frame that bytes hold, lowest first. The port stores no bytes: this is the model's own way to
hand it a word from outside. One byte is an instruction code, five bytes are a chain 7 request, and a
length between stands for a scan chain number (assumption log 45). -/
def frameOfBytes (bs : List Byte) : Except DecodeError Frame :=
  if bs.length = 0 then .error (.wrongLength 0)
  else if bs.length ≤ 4 then
    if bytesToNat bs < 32 then
      if bs.length = 1 then .ok (.ir5 (BitVec.ofNat 5 (bytesToNat bs)))
      else .ok (.screg5 (BitVec.ofNat 5 (bytesToNat bs)))
    else .error .paddingNotZero
  else if bs.length = 5 then .ok (.sc7req (BitVec.ofNat 40 (bytesToNat bs)))
  else .error (.wrongLength bs.length)

/-- Decoding of bytes, total, rejecting by name. -/
def decodeBytes (bs : List Byte) : Except DecodeError Instr :=
  match frameOfBytes bs with
  | .ok f => .ok (decode f)
  | .error e => .error e

/-- The instruction the decoder reads from `nbits` bits of the host's table word `w`. -/
def decodeTableWord (nbits w : Nat) : Option Instr :=
  match decodeBytes (natToBytes ((nbits + 7) / 8) w) with
  | .ok i => some i
  | .error _ => none

/-- The word of an instruction, written from the tables of 30_encoding.md rules R102, R113 to R115. -/
def encode : Instr → Frame
  | .extest => .ir5 0b00000
  | .reserved01 => .ir5 0b00001
  | .scanN => .ir5 0b00010
  | .reserved03 => .ir5 0b00011
  | .restart => .ir5 0b00100
  | .reserved05 => .ir5 0b00101
  | .reserved06 => .ir5 0b00110
  | .reserved07 => .ir5 0b00111
  | .halt => .ir5 0b01000
  | .reserved09 => .ir5 0b01001
  | .reserved0A => .ir5 0b01010
  | .reserved0B => .ir5 0b01011
  | .intest => .ir5 0b01100
  | .reserved0D => .ir5 0b01101
  | .reserved0E => .ir5 0b01110
  | .reserved0F => .ir5 0b01111
  | .reserved10 => .ir5 0b10000
  | .reserved11 => .ir5 0b10001
  | .reserved12 => .ir5 0b10010
  | .reserved13 => .ir5 0b10011
  | .reserved14 => .ir5 0b10100
  | .reserved15 => .ir5 0b10101
  | .reserved16 => .ir5 0b10110
  | .reserved17 => .ir5 0b10111
  | .reserved18 => .ir5 0b11000
  | .reserved19 => .ir5 0b11001
  | .reserved1A => .ir5 0b11010
  | .reserved1B => .ir5 0b11011
  | .reserved1C => .ir5 0b11100
  | .itrsel => .ir5 0b11101
  | .idcode => .ir5 0b11110
  | .bypass => .ir5 0b11111
  | .chain0Didr => .screg5 0b00000
  | .chain1Dscr => .screg5 0b00001
  | .chain2To3 low => .screg5 (0b0001#4 ++ low)
  | .chain4Itr => .screg5 0b00100
  | .chain5Dtr => .screg5 0b00101
  | .chain6Etm => .screg5 0b00110
  | .chain7DebugRegs => .screg5 0b00111
  | .chain8To15 low => .screg5 (0b01#2 ++ low)
  | .chain16To31 low => .screg5 (0b1#1 ++ low)
  | .null d w => .sc7req (requestFrame 0b0000000 d w)
  | .reserved1To6 a d w => .sc7req (requestFrame a d w)
  | .vcr d w => .sc7req (requestFrame 0b0000111 d w)
  | .pc d w => .sc7req (requestFrame 0b0001000 d w)
  | .norow9To18 a d w => .sc7req (requestFrame a d w)
  | .reserved19To63 a d w => .sc7req (requestFrame a d w)
  | .bvr0 d w => .sc7req (requestFrame 0b1000000 d w)
  | .bvr1 d w => .sc7req (requestFrame 0b1000001 d w)
  | .bvr2 d w => .sc7req (requestFrame 0b1000010 d w)
  | .bvr3 d w => .sc7req (requestFrame 0b1000011 d w)
  | .bvr4 d w => .sc7req (requestFrame 0b1000100 d w)
  | .bvr5 d w => .sc7req (requestFrame 0b1000101 d w)
  | .reserved70To79 a d w => .sc7req (requestFrame a d w)
  | .bcr0 d w => .sc7req (requestFrame 0b1010000 d w)
  | .bcr1 d w => .sc7req (requestFrame 0b1010001 d w)
  | .bcr2 d w => .sc7req (requestFrame 0b1010010 d w)
  | .bcr3 d w => .sc7req (requestFrame 0b1010011 d w)
  | .bcr4 d w => .sc7req (requestFrame 0b1010100 d w)
  | .bcr5 d w => .sc7req (requestFrame 0b1010101 d w)
  | .reserved86To95 a d w => .sc7req (requestFrame a d w)
  | .wvr0 d w => .sc7req (requestFrame 0b1100000 d w)
  | .wvr1 d w => .sc7req (requestFrame 0b1100001 d w)
  | .reserved98To111 a d w => .sc7req (requestFrame a d w)
  | .wcr0 d w => .sc7req (requestFrame 0b1110000 d w)
  | .wcr1 d w => .sc7req (requestFrame 0b1110001 d w)
  | .reserved114To127 a d w => .sc7req (requestFrame a d w)

/-- The kind of row an instruction is (30_encoding.md rule R120). -/
def Instr.format (i : Instr) : Format := (encode i).format

end Sys2Proof
end

