-- ==== Sys2Proof/Machine/Flags.lean ====
section
/-! DEFINITION. The flags: the DSCR as software and the port see it (10_state.md rules R35 to R44, R57),
and the handshake flags computed from other state. -/

namespace Sys2Proof.Machine

/-- Bits 0, 1, 29 and 30 of the DSCR, which are views of flags kept elsewhere (10_state.md rule R35). -/
def dscrViewMask : Word := 0x60000003

/-- A flag in bit `n` of a word. -/
def flagBit (n : Nat) (b : Bool) : Word := if b then BitVec.twoPow 32 n else 0

/-- The DSCR (10_state.md rules R35, R57): stored bits, DSCR[0] = DebugState, DSCR[1] = core restarted,
DSCR[29] = wDTRfull, DSCR[30] = NOT rDTRempty. -/
def State.dscr (s : State) : Word :=
  (s.dbg.dscrBits &&& ~~~dscrViewMask)
    ||| flagBit 0 s.core.debugState ||| flagBit 1 s.dbg.coreRestarted
    ||| flagBit 29 s.dbg.wdtrFull ||| flagBit 30 (!s.dbg.rdtrEmpty)

/-- DSCR[6], the sticky precise Data Abort flag (10_state.md rule R38). -/
def State.stickyPreciseAbort (s : State) : Bool := s.dbg.dscrBits.getLsbD 6

/-- DSCR[7], the sticky imprecise Data Abort flag (10_state.md rule R38). -/
def State.stickyImpreciseAbort (s : State) : Bool := s.dbg.dscrBits.getLsbD 7

/-- DSCR[8], the sticky Undefined flag (10_state.md rule R38). -/
def State.stickyUndefined (s : State) : Bool := s.dbg.dscrBits.getLsbD 8

/-- DSCR[12], the User mode access to DCC disable bit (10_state.md rule R39). -/
def State.userDccDisabled (s : State) : Bool := s.dbg.dscrBits.getLsbD 12

/-- DSCR[13], the execute ARM instruction enable bit (10_state.md rule R40). -/
def State.execEnabled (s : State) : Bool := s.dbg.dscrBits.getLsbD 13

/-- Halting debug-mode: DSCR[14] = 1, whatever bit 15 is (10_state.md rule R41). -/
def State.haltingMode (s : State) : Bool := s.dbg.dscrBits.getLsbD 14

/-- Monitor debug-mode: DSCR[15:14] = b10 (10_state.md rule R41). -/
def State.monitorMode (s : State) : Bool :=
  s.dbg.dscrBits.getLsbD 15 && !s.dbg.dscrBits.getLsbD 14

/-- `ReqCompl`: no chain 7 request is pending (10_state.md rules R45, R57 e). -/
def State.reqCompl (s : State) : Bool := s.dbg.req.isNone

/-- The mode bits of a CPSR (assumption log 30). -/
def cpsrMode (cpsr : Word) : BitVec 5 := cpsr.extractLsb' 0 5

/-- The core is in User mode: its mode bits name it (assumption log 30, 42). -/
def CoreRegs.userMode (c : CoreRegs) : Bool := cpsrMode c.cpsr = 0x10

/-- What a permission says of a mode: beside the mode it depends on "DBGEN, SPIDEN, SUIDEN, security state"
(00_scope.md rule R6, 91_not_in_source.md N29; assumption log 51). -/
def State.permitsMode (table : Vector (BitVec 32) 16) (mode : BitVec 5) (s : State) : Bool :=
  let row : BitVec 4 := BitVec.ofBool s.pins.dbgen ++ (BitVec.ofBool s.pins.spiden ++
    (BitVec.ofBool s.core.regs.suiden ++ BitVec.ofBool s.core.regs.nonSecure))
  (table.get row.toFin).getLsbD mode.toNat

/-- What a permission of 00_scope.md rule R6 says of this state, which is in the mode of its CPSR. -/
def State.permitted (table : Vector (BitVec 32) 16) (s : State) : Bool :=
  s.permitsMode table (cpsrMode s.core.regs.cpsr)

/-- The CPSR may be given this value: from a privileged mode, and from User mode in the Non-secure world or
with SPIDEN asserted; and if that changes the mode, the new one is a mode "permitted by the SPIDEN signal and
SUIDEN bit" (42_debug_execution.md rule R198, 60_exceptions.md rule R286). Which modes those are is not in the source:
a table of `cfg` (assumption log 36). -/
def State.mayWriteCpsr (cpsr : Word) (s : State) : Bool :=
  (s.core.regs.nonSecure || s.pins.spiden || !s.core.regs.userMode) &&
    (decide (cpsrMode cpsr = cpsrMode s.core.regs.cpsr) ||
      s.permitsMode s.cfg.modePermitted (cpsrMode cpsr))

/-- `DebugPermitted`: the core's state permits debug (00_scope.md rule R6; assumption log 51). -/
def State.debugPermitted (s : State) : Bool :=
  s.permitted s.cfg.debugPermitted

/-- `NonInvasivePermitted` (00_scope.md rule R6; assumption log 51). -/
def State.nonInvasivePermitted (s : State) : Bool :=
  s.permitted s.cfg.nonInvasivePermitted

/-- A word with bit `n` set or cleared. -/
def setBit (n : Nat) (b : Bool) (w : Word) : Word :=
  (w &&& ~~~BitVec.twoPow 32 n) ||| flagBit n b

/-- The state with a stored DSCR bit set or cleared. -/
def State.setDscrBit (n : Nat) (b : Bool) (s : State) : State :=
  { s with dbg.dscrBits := setBit n b s.dbg.dscrBits }

/-- The three sticky flags cleared: `DSCR[8:6] <- b000` (41_scan_chains.md rule R155). -/
def State.clearSticky (s : State) : State :=
  { s with dbg.dscrBits := s.dbg.dscrBits &&& ~~~(0x000001C0 : Word) }

/-- DSCR_TAP_WMASK as 00_scope.md rule R6 constrains it: it contains bits 13 and 14, and contains
neither the status bits 0, 1, 29, 30 nor the sticky flags 6, 7, 8 (assumption log 6). -/
def tapWriteMask (p : Params) : Word :=
  (p.tapWriteMask ||| 0x00006000) &&& ~~~(0x600001C3 : Word)

/-- The processor state the T and J bits of a CPSR name (60_exceptions.md rule R285; the bit positions
are 93_implementation_defined.md GK4, assumption log 30). -/
def isaOf (cpsr : Word) : Isa :=
  match cpsr.getLsbD 24, cpsr.getLsbD 5 with
  | false, false => .arm
  | false, true => .thumb
  | true, false => .jazelle
  | true, true => .other

end Sys2Proof.Machine
end

