-- ==== Sys2Proof/Machine/Operands.lean ====
section
/-! DEFINITION. The frames of the data registers (30_encoding.md rules R105 to R113): which field of a
shift section is which bit, and which register the current instruction connects. -/

namespace Sys2Proof.Machine

/-- INTEST or EXTEST, as `Effective()` answers it (40_tap_instructions.md rule R131). -/
inductive ScanInsn where
  /-- INTEST -/
  | intest
  /-- EXTEST, also under ITRsel -/
  | extest
deriving DecidableEq, Repr

/-- `Effective()`: the pair (instruction, chain) the controller acts on; none for `(other, none)`
(40_tap_instructions.md rule R131). -/
def effective (ir screg : BitVec 5) : Option (ScanInsn × BitVec 5) :=
  if ir = 0b11101 then some (.extest, 4)
  else if ir = 0b01100 then some (.intest, screg)
  else if ir = 0b00000 then some (.extest, screg)
  else none

/-- One shift: `tdi : S[L-1:1]` (00_scope.md rule R8). -/
def shiftIn {n : Nat} (tdi : Bool) (v : BitVec n) : BitVec n :=
  (BitVec.ofBool tdi ++ v).extractLsb' 1 n

/-- The device ID code (10_state.md rule R27; positions PRESUMED, assumption log 5). -/
def deviceId (p : Params) : BitVec 32 :=
  (p.idVersion ++ (0x7B76 : BitVec 16)) ++ (p.idManufacturer ++ (1 : BitVec 1))

/-- Scan chain 0: `0x41 : DIDR` (30_encoding.md rule R108). -/
def frame0 (p : Params) : BitVec 40 := (0x41 : BitVec 8) ++ p.didr

/-- Scan chain 4: InstCompl in bit 32, 32 data bits (30_encoding.md rule R110). -/
def frame4 (instCompl : Bool) (v : Word) : BitVec 33 := BitVec.ofBool instCompl ++ v

/-- Scan chain 5: flag in bit 33, InstCompl in bit 32, data (30_encoding.md rule R111). -/
def frame5 (flag instCompl : Bool) (v : Word) : BitVec 34 :=
  BitVec.ofBool flag ++ (BitVec.ofBool instCompl ++ v)

/-- The data field of scan chain 4, bits [31:0]. -/
def data4 (v : BitVec 33) : Word := v.extractLsb' 0 32

/-- The data field of scan chain 5, bits [31:0]. -/
def data5 (v : BitVec 34) : Word := v.extractLsb' 0 32

/-- Scan chain 6: nRW, bit 39 (30_encoding.md rule R112). -/
def etmWrite (v : BitVec 40) : Bool := v.getLsbD 39

/-- Scan chain 6: the ETM register address, bits [38:32]. -/
def etmAddress (v : BitVec 40) : BitVec 7 := v.extractLsb' 32 7

/-- Scan chain 6: data, bits [31:0]. -/
def etmData (v : BitVec 40) : Word := v.extractLsb' 0 32

/-- Scan chain 7 as a capture loads it: Address, Data, Ready/nRW (30_encoding.md rule R113). -/
def frame7 (a : BitVec 7) (d : Word) (ready : Bool) : BitVec 40 := requestFrame a d ready

/-- The reserved addresses of scan chain 7, and 9 to 18, which Table 14-2 leaves without a row
(41_scan_chains.md rule R179; assumption log 20). -/
def reservedAddress (a : BitVec 7) : Bool :=
  addressIn 1 6 a || addressIn 9 63 a || addressIn 70 79 a || addressIn 86 95 a
    || addressIn 98 111 a || addressIn 114 127 a

/-- A PC sample for a committed instruction (41_scan_chains.md rule R181). -/
def pcSampleOf (isa : Isa) (a : Word) : Word :=
  match isa with
  | .arm => (a + 8) &&& 0xFFFFFFFC
  | .thumb => (((a + 4) >>> 1) <<< 1) ||| 1
  | .jazelle => (a &&& 0xFFFFFFFC) ||| 2
  | .other => Config.pcSampleOther a

/-- `ReadReg(8)`: the PC sample register (41_scan_chains.md rule R180). The sample has the form of the processor
state of the committed instruction (rule R181), not of the one the CPSR names since. -/
def State.pcSample (s : State) : Word :=
  if s.core.debugState || !s.nonInvasivePermitted then 0xFFFFFFFF
  else pcSampleOf s.core.regs.committedIsa s.core.regs.committed

end Sys2Proof.Machine
end

