-- ==== Sys2Proof/Machine/Ops.lean ====
section
/-! DEFINITION. The shared operations: open values, DBGTAP reset, entry to Debug state (the trap) and the
restart (the return), the sticky flags (the exceptions of an issued instruction), the DTR accesses, and
the actions at entry to Run-Test/Idle. -/

namespace Sys2Proof.Machine

/-- Sequencing of outcomes: go on with the next state, keep a stop. -/
def andThen {α β : Type} (o : Result α) (f : α → Result β) : Result β :=
  match o with
  | .next a => f a
  | .fault r => .fault r
  | .refused r => .refused r

/-- The k-th open value from here on: one supplied from outside, else `Config.draw` (rule R9 `draw`;
assumption log 2). -/
def State.drawAt (s : State) (k : Nat) : BitVec 40 :=
  match s.env.draws[k]? with
  | some d => d
  | none => Config.draw (s.env.drawCount + k)

/-- The state after `n` open values have been used. -/
def State.usedDraws (n : Nat) (s : State) : State :=
  { s with env.draws := s.env.draws.drop n, env.drawCount := s.env.drawCount + n }

/-- `TapReset()` (70_reset_and_hazards.md rule R311): IDcode and scan chain 3. The shift sections and the
four latches keep no defined value (10_state.md rules R29, R55): each becomes an open value (log 27). -/
def State.tapReset (s : State) : State :=
  State.usedDraws 11 { s with
    ctl.ir := 0b11110, ctl.screg := 0b00011
    ctl.irs := (s.drawAt 0).setWidth 5, ctl.scs := (s.drawAt 1).setWidth 5
    ctl.byp := (s.drawAt 2).getLsbD 0, ctl.ids := (s.drawAt 3).setWidth 32
    ctl.s0 := s.drawAt 4, ctl.s1 := (s.drawAt 5).setWidth 32
    ctl.s4 := (s.drawAt 6).setWidth 33, ctl.s5 := (s.drawAt 7).setWidth 34
    ctl.s6 := s.drawAt 8, ctl.s7 := s.drawAt 9
    ctl.ready := (s.drawAt 10).getLsbD 0, ctl.nRetry := (s.drawAt 10).getLsbD 1
    ctl.valid := (s.drawAt 10).getLsbD 2, ctl.reqReady := (s.drawAt 10).getLsbD 3 }

/-! ### Entry to Debug state and the return -/

/-- `EnterDebugState()` (60_exceptions.md rule R274): DSCR[0] reads 1 from now on and nothing else of
the machine changes; the model notes the processor state at entry for rule R285. -/
def State.enterDebugState (s : State) : State :=
  { s with core.debugState := true, core.entryIsa := isaOf s.core.regs.cpsr }

/-- An asserted EDBGRQ is a Halt request while DBGEN is asserted and the core is not in Debug state
(60_exceptions.md rule R272; assumption log 23). -/
def State.applyEdbgrq (s : State) : State :=
  if s.pins.edbgrq && s.pins.dbgen && !s.core.debugState then { s with core.haltReq := true } else s

/-- The restart step of the core, the return (60_exceptions.md rule R283), refused with DSCR[13] = 1. -/
def State.leaveDebugState (s : State) : Result State :=
  if s.execEnabled then .refused .u2RestartWithExecEnable
  else .next (State.applyEdbgrq { s with
    core.debugState := false, core.restartReq := false, core.drained := false
    dbg.coreRestarted := true })

/-- The sticky flag of an exception of an issued instruction (60_exceptions.md rules R275 to R278). DSCR[6]
is set if the core is in Debug state with DSCR[13] = 1. -/
def State.recordOutcome (o : CoreOutcome) (s : State) : State :=
  match o with
  | .done => s
  | .preciseAbort => if s.core.debugState && s.execEnabled then s.setDscrBit 6 true else s
  | .undefined => if s.core.debugState then s.setDscrBit 8 true else s

/-! ### The data transfer registers, core side -/

/-- A core write of the wDTR (42_debug_execution.md rule R199; assumption log 17). -/
def State.writeWdtr (v : Word) (s : State) : State :=
  { s with dbg.wdtr := v, dbg.wdtrFull := true }

/-- A core read of the rDTR empties it (42_debug_execution.md rule R200). -/
def State.readRdtr (s : State) : State :=
  { s with dbg.rdtrEmpty := true }

/-! ### Actions at entry to Run-Test/Idle -/

/-- `HaltAction()` (40_tap_instructions.md rule R135). -/
def State.haltAction (s : State) : Result State :=
  if s.core.debugState then .next s
  else if s.pins.dbgen then .next { s with core.haltReq := true }
  else .next s

/-- `RestartAction()` (40_tap_instructions.md rule R134). -/
def State.restartAction (s : State) : Result State :=
  if s.core.debugState then
    .next { s with core.restartReq := true, dbg.coreRestarted := false }
  else .refused .u13RestartOutsideDebug

/-- The issue action (42_debug_execution.md rule R191). -/
def State.issue (s : State) : State :=
  { s with core.inFlight := some s.dbg.itr, dbg.instCompl := false }

/-- `TryIssue()` (42_debug_execution.md rules R190, R193, R210). -/
def State.tryIssue (s : State) : Result State :=
  if !s.core.debugState then .next s
  else if !s.execEnabled then .next s
  else if !s.ctl.ready then .next s
  else if s.stickyPreciseAbort then .next s
  else if !s.dbg.instCompl then .refused .u14StaleReady
  else .next s.issue

/-! ### Scan chain 7 requests -/

/-- Placing a request at Update-DR (41_scan_chains.md rules R175, R178, R179). -/
def State.placeRequest (a : BitVec 7) (d : Word) (w : Bool) (s : State) : Result State :=
  if !s.ctl.reqReady then .next s
  else if a = 0 then .next s
  else if reservedAddress a then .refused .u6ReservedRequest
  else .next { s with dbg.req := some ⟨a, d, w⟩, dbg.rdData := none }

/-- The end of a read request: the register's contents wait for the next capture (rule R176). -/
def State.finishRead (v : Word) (s : State) : State :=
  { s with dbg.rdData := some v, dbg.req := none }

/-- The end of a write request, after the register has taken the data (rule R177). -/
def State.finishWrite (s : State) : State :=
  { s with dbg.rdData := none, dbg.req := none }

end Sys2Proof.Machine
end

