-- ==== Sys2Proof/Machine/Cycle.lean ====
section
/-! DEFINITION. One TCK cycle of the controller (10_state.md rules R21, R22), with what the current
instruction does in it as an argument. -/

namespace Sys2Proof.Machine

/-- The transition table of the DBGTAPSM (10_state.md rule R21; assumption log 4). -/
def TapState.next (t : TapState) (tms : Bool) : TapState :=
  match t with
  | .testLogicReset => if tms then .testLogicReset else .runTestIdle
  | .runTestIdle => if tms then .selectDr else .runTestIdle
  | .selectDr => if tms then .selectIr else .captureDr
  | .captureDr => if tms then .exit1Dr else .shiftDr
  | .shiftDr => if tms then .exit1Dr else .shiftDr
  | .exit1Dr => if tms then .updateDr else .pauseDr
  | .pauseDr => if tms then .exit2Dr else .pauseDr
  | .exit2Dr => if tms then .updateDr else .shiftDr
  | .updateDr => if tms then .selectDr else .runTestIdle
  | .selectIr => if tms then .testLogicReset else .captureIr
  | .captureIr => if tms then .exit1Ir else .shiftIr
  | .shiftIr => if tms then .exit1Ir else .shiftIr
  | .exit1Ir => if tms then .updateIr else .pauseIr
  | .pauseIr => if tms then .exit2Ir else .pauseIr
  | .exit2Ir => if tms then .updateIr else .shiftIr
  | .updateIr => if tms then .selectDr else .runTestIdle

/-- What an instruction does while it is current: the template of 40_tap_instructions.md (a DR scan, and
entry to Run-Test/Idle). -/
structure Leg where
  /-- bit 0 of the connected shift section, which DBGTDO shows in Shift-DR -/
  out : State → Bool
  /-- the action in Capture-DR, after `Ready` is loaded -/
  capture : State → Result State
  /-- the action in Shift-DR with DBGTDI -/
  shift : Bool → State → Result State
  /-- the action at Update-DR -/
  update : State → Result State
  /-- the action at entry to Run-Test/Idle -/
  idle : State → Result State

/-- What the debugger reads on DBGTDO during a cycle (10_state.md rule R22 A; assumption log 48). -/
def State.dbgtdo (leg : Leg) (s : State) : Option Bool :=
  match s.ctl.tap with
  | .shiftDr => some (leg.out s)
  | .shiftIr => some (s.ctl.irs.getLsbD 0)
  | _ => none

/-- The action of the state the controller is in (10_state.md rule R22 B). Every Capture-DR loads `Ready`
(41_scan_chains.md rule R150; assumption log 9). -/
def State.stateAction (leg : Leg) (tdi : Bool) (s : State) : Result State :=
  match s.ctl.tap with
  | .testLogicReset => .next s.tapReset
  | .captureDr => leg.capture { s with ctl.ready := s.dbg.instCompl }
  | .shiftDr => leg.shift tdi s
  | .captureIr => .next { s with ctl.irs := 0b00001 }
  | .shiftIr => .next { s with ctl.irs := shiftIn tdi s.ctl.irs }
  | _ => .next s

/-- The action of the state entered from `prev` (10_state.md rule R22 D). Entry to Run-Test/Idle from
Test-Logic-Reset finds IDcode current and does nothing (40_tap_instructions.md rule R140). -/
def State.enterAction (leg : Leg) (prev : TapState) (s : State) : Result State :=
  match s.ctl.tap with
  | .updateDr => leg.update s
  | .updateIr => .next { s with ctl.ir := s.ctl.irs }
  | .testLogicReset => .next s.tapReset
  | .runTestIdle => if prev = .updateDr || prev = .updateIr then leg.idle s else .next s
  | _ => .next s

/-- The controller held in Test-Logic-Reset by DBGnTRST (70_reset_and_hazards.md rule R310; log 27). -/
def State.heldInReset (s : State) : State :=
  State.tapReset { s with ctl.tap := .testLogicReset, ctl.tdo := none }

/-- `TapCycle(tms, tdi)` (10_state.md rule R22). -/
def runCycle (leg : Leg) (tms tdi : Bool) (s : State) : Result State :=
  if s.pins.trst then .next s.heldInReset
  else
    andThen (State.stateAction leg tdi { s with ctl.tdo := s.dbgtdo leg }) fun t =>
      State.enterAction leg t.ctl.tap { t with ctl.tap := t.ctl.tap.next tms }

/-- The cycle whose pins stand first in the input list. An instruction acts only on a TCK cycle: when
none is due the controller stands still (assumption log 50). -/
def tckCycle (leg : Leg) (s : State) : Result State :=
  match s.env.inputs with
  | .tck tms tdi :: rest => runCycle leg tms tdi { s with env.inputs := rest }
  | _ => .next s

end Sys2Proof.Machine
end

