-- ==== Sys2Proof/Machine/Chains.lean ====
section
/-! DEFINITION. The data register legs: bypass, device ID, SCREG, and the scan chains under INTEST and
EXTEST (41_scan_chains.md rules R150 to R185). -/

namespace Sys2Proof.Machine

/-- The leg of the bypass register with nothing at entry to Run-Test/Idle (40_tap_instructions.md rule
R139; 10_state.md rule R25). -/
def bypassLeg : Leg where
  out s := s.ctl.byp
  capture s := .next { s with ctl.byp := false }
  shift tdi s := .next { s with ctl.byp := tdi }
  update s := .next s
  idle s := .next s

/-- The leg of the device ID register (40_tap_instructions.md rule R138). -/
def idcodeLeg : Leg where
  out s := s.ctl.ids.getLsbD 0
  capture s := .next { s with ctl.ids := deviceId s.cfg }
  shift tdi s := .next { s with ctl.ids := shiftIn tdi s.ctl.ids }
  update s := .next s
  idle s := .next s

/-- The leg of SCREG (40_tap_instructions.md rule R133). -/
def scanNLeg : Leg where
  out s := s.ctl.scs.getLsbD 0
  capture s := .next { s with ctl.scs := 0b10000 }
  shift tdi s := .next { s with ctl.scs := shiftIn tdi s.ctl.scs }
  update s := .next { s with ctl.screg := s.ctl.scs }
  idle s := .next s

/-- `Capture0()` (41_scan_chains.md rule R152). -/
def State.capture0 (s : State) : State := { s with ctl.s0 := frame0 s.cfg }

/-- `Capture1(insn)` (rules R154, R155): the word captured shows the flags as they were before the clear. -/
def State.capture1 (insn : ScanInsn) (s : State) : State :=
  match insn with
  | .intest => State.clearSticky { s with ctl.s1 := s.dscr }
  | .extest => { s with ctl.s1 := s.dscr }

/-- `Update1(insn)` (rules R156, R157). -/
def State.update1 (insn : ScanInsn) (s : State) : Result State :=
  match insn with
  | .intest => .next s
  | .extest =>
    if s.ctl.s1.getLsbD 13 && !s.execEnabled && !s.core.debugState then
      .refused .u1ExecEnableSetOutsideDebug
    else if !s.ctl.s1.getLsbD 13 && s.execEnabled && !s.dbg.instCompl then
      .refused .u4ExecEnableClearedInFlight
    else
      .next { s with dbg.dscrBits :=
        (s.dbg.dscrBits &&& ~~~tapWriteMask s.cfg) ||| (s.ctl.s1 &&& tapWriteMask s.cfg) }

/-- `Capture4()` (rule R158): the flag is defined, the 32 data bits are open. -/
def State.capture4 (s : State) : State :=
  State.usedDraws 1 { s with ctl.s4 := frame4 s.dbg.instCompl ((s.drawAt 0).setWidth 32) }

/-- `Update4(insn)` (rules R159, R160). -/
def State.update4 (insn : ScanInsn) (s : State) : State :=
  match insn with
  | .intest => s
  | .extest => if s.ctl.ready then { s with dbg.itr := data4 s.ctl.s4 } else s

/-- `Capture5(insn)` (rules R161, R162). -/
def State.capture5 (insn : ScanInsn) (s : State) : State :=
  let latched := { s with ctl.nRetry := s.dbg.rdtrEmpty, ctl.valid := s.dbg.wdtrFull }
  match insn with
  | .intest =>
    { latched with
      ctl.s5 := frame5 s.dbg.wdtrFull s.dbg.instCompl s.dbg.wdtr, dbg.wdtrFull := false }
  | .extest =>
    { latched with ctl.s5 := frame5 s.dbg.rdtrEmpty s.dbg.instCompl s.dbg.wdtr }

/-- `Update5(insn)` (rules R163 to R165): the guard is `nRetry` with DSCR[13] = 0 and `Ready` with
DSCR[13] = 1, which is read here (assumption log 53). -/
def State.update5 (insn : ScanInsn) (s : State) : State :=
  match insn with
  | .intest => s
  | .extest =>
    if (if s.execEnabled then s.ctl.ready else s.ctl.nRetry) then
      { s with dbg.rdtr := data5 s.ctl.s5, dbg.rdtrEmpty := false }
    else s

/-- `Capture6(insn)` (rule R172). -/
def State.capture6 (insn : ScanInsn) (s : State) : State :=
  match insn with
  | .intest => { s with ctl.s6 := Config.etmCapture s.etm, etm := Config.etmAfterCapture s.etm }
  | .extest => State.usedDraws 1 { s with ctl.s6 := s.drawAt 0 }

/-- `Update6(insn)` (rule R172): accesses with EXTEST selected are ignored. -/
def State.update6 (insn : ScanInsn) (s : State) : State :=
  match insn with
  | .intest =>
    { s with etm := Config.etmAccess s.etm (etmWrite s.ctl.s6) (etmAddress s.ctl.s6) (etmData s.ctl.s6) }
  | .extest => s

/-- `Capture7()` (rule R173): a read result is delivered once; while a request is pending only the
Ready/nRW bit is loaded. -/
def State.capture7 (s : State) : State :=
  let latched := { s with ctl.reqReady := s.reqCompl }
  if s.reqCompl then
    match s.dbg.rdData with
    | some v =>
      State.usedDraws 1 { latched with
        ctl.s7 := frame7 ((s.drawAt 0).setWidth 7) v true, dbg.rdData := none }
    | none =>
      State.usedDraws 2 { latched with
        ctl.s7 := frame7 ((s.drawAt 0).setWidth 7) ((s.drawAt 1).setWidth 32) true }
  else { latched with ctl.s7 := s.ctl.s7.extractLsb' 1 39 ++ (0 : BitVec 1) }

/-- One Shift-DR cycle of chain 7 (rule R174): frozen if the last capture read Ready/nRW = 0. -/
def State.shift7 (tdi : Bool) (s : State) : State :=
  if s.ctl.reqReady then { s with ctl.s7 := shiftIn tdi s.ctl.s7 } else s

/-- What chain 7 shows on DBGTDO (rule R174). -/
def State.out7 (s : State) : Bool :=
  if s.ctl.reqReady then s.ctl.s7.getLsbD 0 else false

/-- `Update7()` (rule R175): the request standing in the chain is placed. -/
def State.update7 (s : State) : Result State :=
  s.placeRequest (requestAddress s.ctl.s7) (requestData s.ctl.s7) (requestWrite s.ctl.s7)

/-- Scan chain 0 (rules R152, R153). -/
def chain0Leg : Leg where
  out s := s.ctl.s0.getLsbD 0
  capture s := .next s.capture0
  shift tdi s := .next { s with ctl.s0 := shiftIn tdi s.ctl.s0 }
  update s := .next s
  idle s := .next s

/-- Scan chain 1 (rules R154 to R157). -/
def chain1Leg (insn : ScanInsn) : Leg where
  out s := s.ctl.s1.getLsbD 0
  capture s := .next (s.capture1 insn)
  shift tdi s := .next { s with ctl.s1 := shiftIn tdi s.ctl.s1 }
  update s := s.update1 insn
  idle s := .next s

/-- Scan chain 4 (rules R158 to R160); entry to Run-Test/Idle may issue (40_tap_instructions.md rule R140). -/
def chain4Leg (insn : ScanInsn) : Leg where
  out s := s.ctl.s4.getLsbD 0
  capture s := .next s.capture4
  shift tdi s := .next { s with ctl.s4 := shiftIn tdi s.ctl.s4 }
  update s := .next (s.update4 insn)
  idle s := s.tryIssue

/-- Scan chain 5 (rules R161 to R166); entry to Run-Test/Idle may issue (42_debug_execution.md rule R197). -/
def chain5Leg (insn : ScanInsn) : Leg where
  out s := s.ctl.s5.getLsbD 0
  capture s := .next (s.capture5 insn)
  shift tdi s := .next { s with ctl.s5 := shiftIn tdi s.ctl.s5 }
  update s := .next (s.update5 insn)
  idle s := s.tryIssue

/-- Scan chain 6 (rule R172). -/
def chain6Leg (insn : ScanInsn) : Leg where
  out s := s.ctl.s6.getLsbD 0
  capture s := .next (s.capture6 insn)
  shift tdi s := .next { s with ctl.s6 := shiftIn tdi s.ctl.s6 }
  update s := .next (s.update6 insn)
  idle s := .next s

/-- Scan chain 7 (rules R173 to R175), the same under INTEST and EXTEST. -/
def chain7Leg : Leg where
  out s := s.out7
  capture s := .next s.capture7
  shift tdi s := .next (s.shift7 tdi)
  update s := s.update7
  idle s := .next s

/-- A chain with no described behaviour (rules R183 to R185): a DR scan is refused, and entry to
Run-Test/Idle issues nothing. Its length is unknown, so no shift can be given (assumption log 14). -/
def undescribedLeg (r : Refusal) : Leg where
  out _ := false
  capture _ := .refused r
  shift _ _ := .refused r
  update _ := .refused r
  idle s := .next s

/-- The leg of the scan chain with a number, under INTEST or EXTEST (rule R150). -/
def chainLeg (insn : ScanInsn) (number : BitVec 5) : Leg :=
  match number.toNat with
  | 0 => chain0Leg
  | 1 => chain1Leg insn
  | 2 => undescribedLeg .u10UndescribedChain
  | 3 => undescribedLeg .u10UndescribedChain
  | 4 => chain4Leg insn
  | 5 => chain5Leg insn
  | 6 => chain6Leg insn
  | 7 => chain7Leg
  | n => if n < 16 then undescribedLeg .u11ReservedChain else undescribedLeg .u12UnassignedChain

/-- The leg of Halt: the bypass register (assumption log 7) and `HaltAction()`. -/
def haltLeg : Leg := { bypassLeg with idle := State.haltAction }

/-- The leg of Restart: the bypass register (assumption log 7) and `RestartAction()`. -/
def restartLeg : Leg := { bypassLeg with idle := State.restartAction }

/-- The leg of the instruction register's code `ir` if the scan chain numbered `number` is selected: the
dispatch of 41_scan_chains.md rule R150 and 40_tap_instructions.md rule R140. -/
def legOf (ir number : BitVec 5) : Leg :=
  match effective ir number with
  | some (insn, c) => chainLeg insn c
  | none =>
    if ir = 0b00010 then scanNLeg
    else if ir = 0b11110 then idcodeLeg
    else if ir = 0b01000 then haltLeg
    else if ir = 0b00100 then restartLeg
    else bypassLeg

end Sys2Proof.Machine
end

