-- ==== Sys2Proof/Machine/ChainInstructions.lean ====
section
/-! DEFINITION. The scan chains as rows of the opcode table (41_scan_chains.md): the TCK cycle that happens
while the chain's number is selected. Which instruction connects it, and whether one does, is decided by
the instruction register (40_tap_instructions.md rule R131). -/

namespace Sys2Proof.Machine

/-- Scan chain 0, the debug ID register (rules R152, R153). -/
def execChain0Didr (s : State) : Result State := tckCycle (legOf s.ctl.ir 0) s

/-- Scan chain 1, the DSCR (rules R154 to R157). -/
def execChain1Dscr (s : State) : Result State := tckCycle (legOf s.ctl.ir 1) s

/-- Scan chains 2 and 3, which nothing describes: a DR scan is refused (rule R183). -/
def execChain2To3 (low : BitVec 1) (s : State) : Result State :=
  tckCycle (legOf s.ctl.ir ((0b0001 : BitVec 4) ++ low)) s

/-- Scan chain 4, the ITR (rules R158 to R160). -/
def execChain4Itr (s : State) : Result State := tckCycle (legOf s.ctl.ir 4) s

/-- Scan chain 5, the data transfer registers (rules R161 to R166). -/
def execChain5Dtr (s : State) : Result State := tckCycle (legOf s.ctl.ir 5) s

/-- Scan chain 6, the Embedded Trace Macrocell (rule R172). -/
def execChain6Etm (s : State) : Result State := tckCycle (legOf s.ctl.ir 6) s

/-- Scan chain 7, the request port (rules R173 to R182). -/
def execChain7DebugRegs (s : State) : Result State := tckCycle (legOf s.ctl.ir 7) s

/-- Scan chains 8 to 15, reserved: a DR scan is refused (rule R184). -/
def execChain8To15 (low : BitVec 3) (s : State) : Result State :=
  tckCycle (legOf s.ctl.ir ((0b01 : BitVec 2) ++ low)) s

/-- Scan chains 16 to 31, unassigned: a DR scan is refused (rule R185). -/
def execChain16To31 (low : BitVec 4) (s : State) : Result State :=
  tckCycle (legOf s.ctl.ir ((0b1 : BitVec 1) ++ low)) s

end Sys2Proof.Machine
end

