-- ==== Sys2Proof/Machine/RequestInstructions.lean ====
section
/-! DEFINITION. The requests of scan chain 7 (41_scan_chains.md rules R173 to R182). A request has two
steps: the controller places it on the TCK cycle that enters Update-DR, and the request engine completes
it later. Both are the meaning of its row; which happens is the next input. -/

namespace Sys2Proof.Machine

/-- A request row: a TCK cycle of scan chain 7 whose Update-DR does `place`, or a step of the request
engine, which does `finish`. With another input, or none, nothing happens (assumption log 50). -/
def requestRow (place finish : State → Result State) (s : State) : Result State :=
  match s.env.inputs with
  | .engine :: rest => finish { s with env.inputs := rest }
  | _ => tckCycle { chain7Leg with update := place } s

/-- The row of a register: a read delivers its contents (rule R176), a write puts the data in it (rule R177). -/
def registerRow (a : BitVec 7) (d : Word) (w : Bool) (get : State → Word) (put : Word → State → State)
    (s : State) : Result State :=
  requestRow (State.placeRequest a d w)
    (fun t => if w then .next (put d t).finishWrite else .next (t.finishRead (get t))) s

/-- The row of a reserved address: refused once the request would be placed (rule R179). -/
def reservedRow (s : State) : Result State :=
  requestRow (fun t => if t.ctl.reqReady then .refused .u6ReservedRequest else .next t)
    (fun _ => .refused .u6ReservedRequest) s

/-- The NULL register: no request is generated, whatever the other fields are (rule R178). -/
def execNull (_d : Word) (_w : Bool) (s : State) : Result State :=
  requestRow (fun t => .next t) (fun t => .next t) s

/-- VCR, address 7. -/
def execVcr (d : Word) (w : Bool) (s : State) : Result State :=
  registerRow 7 d w (fun t => t.dbg.vcr) (fun v t => { t with dbg.vcr := v }) s

/-- PC, address 8: a read samples the core when it is served, a write is ignored (rules R177, R180). -/
def execPc (d : Word) (w : Bool) (s : State) : Result State :=
  registerRow 8 d w (fun t => t.pcSample) (fun _ t => t) s

/-- BVR0, address 64. -/
def execBvr0 (d : Word) (w : Bool) (s : State) : Result State :=
  registerRow 64 d w (fun t => t.dbg.bvr[0]) (fun v t => { t with dbg.bvr := t.dbg.bvr.set 0 v }) s

/-- BVR1, address 65. -/
def execBvr1 (d : Word) (w : Bool) (s : State) : Result State :=
  registerRow 65 d w (fun t => t.dbg.bvr[1]) (fun v t => { t with dbg.bvr := t.dbg.bvr.set 1 v }) s

/-- BVR2, address 66. -/
def execBvr2 (d : Word) (w : Bool) (s : State) : Result State :=
  registerRow 66 d w (fun t => t.dbg.bvr[2]) (fun v t => { t with dbg.bvr := t.dbg.bvr.set 2 v }) s

/-- BVR3, address 67. -/
def execBvr3 (d : Word) (w : Bool) (s : State) : Result State :=
  registerRow 67 d w (fun t => t.dbg.bvr[3]) (fun v t => { t with dbg.bvr := t.dbg.bvr.set 3 v }) s

/-- BVR4, address 68. -/
def execBvr4 (d : Word) (w : Bool) (s : State) : Result State :=
  registerRow 68 d w (fun t => t.dbg.bvr[4]) (fun v t => { t with dbg.bvr := t.dbg.bvr.set 4 v }) s

/-- BVR5, address 69. -/
def execBvr5 (d : Word) (w : Bool) (s : State) : Result State :=
  registerRow 69 d w (fun t => t.dbg.bvr[5]) (fun v t => { t with dbg.bvr := t.dbg.bvr.set 5 v }) s

/-- BCR0, address 80. -/
def execBcr0 (d : Word) (w : Bool) (s : State) : Result State :=
  registerRow 80 d w (fun t => t.dbg.bcr[0]) (fun v t => { t with dbg.bcr := t.dbg.bcr.set 0 v }) s

/-- BCR1, address 81. -/
def execBcr1 (d : Word) (w : Bool) (s : State) : Result State :=
  registerRow 81 d w (fun t => t.dbg.bcr[1]) (fun v t => { t with dbg.bcr := t.dbg.bcr.set 1 v }) s

/-- BCR2, address 82. -/
def execBcr2 (d : Word) (w : Bool) (s : State) : Result State :=
  registerRow 82 d w (fun t => t.dbg.bcr[2]) (fun v t => { t with dbg.bcr := t.dbg.bcr.set 2 v }) s

/-- BCR3, address 83. -/
def execBcr3 (d : Word) (w : Bool) (s : State) : Result State :=
  registerRow 83 d w (fun t => t.dbg.bcr[3]) (fun v t => { t with dbg.bcr := t.dbg.bcr.set 3 v }) s

/-- BCR4, address 84. -/
def execBcr4 (d : Word) (w : Bool) (s : State) : Result State :=
  registerRow 84 d w (fun t => t.dbg.bcr[4]) (fun v t => { t with dbg.bcr := t.dbg.bcr.set 4 v }) s

/-- BCR5, address 85. -/
def execBcr5 (d : Word) (w : Bool) (s : State) : Result State :=
  registerRow 85 d w (fun t => t.dbg.bcr[5]) (fun v t => { t with dbg.bcr := t.dbg.bcr.set 5 v }) s

/-- WVR0, address 96. -/
def execWvr0 (d : Word) (w : Bool) (s : State) : Result State :=
  registerRow 96 d w (fun t => t.dbg.wvr[0]) (fun v t => { t with dbg.wvr := t.dbg.wvr.set 0 v }) s

/-- WVR1, address 97. -/
def execWvr1 (d : Word) (w : Bool) (s : State) : Result State :=
  registerRow 97 d w (fun t => t.dbg.wvr[1]) (fun v t => { t with dbg.wvr := t.dbg.wvr.set 1 v }) s

/-- WCR0, address 112. -/
def execWcr0 (d : Word) (w : Bool) (s : State) : Result State :=
  registerRow 112 d w (fun t => t.dbg.wcr[0]) (fun v t => { t with dbg.wcr := t.dbg.wcr.set 0 v }) s

/-- WCR1, address 113. -/
def execWcr1 (d : Word) (w : Bool) (s : State) : Result State :=
  registerRow 113 d w (fun t => t.dbg.wcr[1]) (fun v t => { t with dbg.wcr := t.dbg.wcr.set 1 v }) s

/-- RESERVED_1_6: addresses 1 to 6, reserved (rule R179). -/
def execReserved1To6 (_a : BitVec 7) (_d : Word) (_w : Bool) (s : State) : Result State := reservedRow s

/-- NOROW_9_18: addresses 9 to 18, reserved (rule R179). They have no row in Table 14-2 (assumption log 20). -/
def execNorow9To18 (_a : BitVec 7) (_d : Word) (_w : Bool) (s : State) : Result State := reservedRow s

/-- RESERVED_19_63: addresses 19 to 63, reserved (rule R179). -/
def execReserved19To63 (_a : BitVec 7) (_d : Word) (_w : Bool) (s : State) : Result State := reservedRow s

/-- RESERVED_70_79: addresses 70 to 79, reserved (rule R179). -/
def execReserved70To79 (_a : BitVec 7) (_d : Word) (_w : Bool) (s : State) : Result State := reservedRow s

/-- RESERVED_86_95: addresses 86 to 95, reserved (rule R179). -/
def execReserved86To95 (_a : BitVec 7) (_d : Word) (_w : Bool) (s : State) : Result State := reservedRow s

/-- RESERVED_98_111: addresses 98 to 111, reserved (rule R179). -/
def execReserved98To111 (_a : BitVec 7) (_d : Word) (_w : Bool) (s : State) : Result State := reservedRow s

/-- RESERVED_114_127: addresses 114 to 127, reserved (rule R179). -/
def execReserved114To127 (_a : BitVec 7) (_d : Word) (_w : Bool) (s : State) : Result State := reservedRow s

end Sys2Proof.Machine
end

