-- ==== Sys2Proof/Machine/TapInstructions.lean ====
section
/-! DEFINITION. The public instructions of the DBGTAP controller (40_tap_instructions.md): the meaning of
an instruction is the TCK cycle that happens while it is current. -/

namespace Sys2Proof.Machine

/-- EXTEST (rule R132): the selected scan chain is connected and written. -/
def execExtest (s : State) : Result State := tckCycle (chainLeg .extest s.ctl.screg) s

/-- Scan_N (rule R133). -/
def execScanN (s : State) : Result State := tckCycle scanNLeg s

/-- Restart (rule R134). -/
def execRestart (s : State) : Result State := tckCycle restartLeg s

/-- Halt (rule R135). -/
def execHalt (s : State) : Result State := tckCycle haltLeg s

/-- INTEST (rule R136): the selected scan chain is connected and read. -/
def execIntest (s : State) : Result State := tckCycle (chainLeg .intest s.ctl.screg) s

/-- ITRsel (rule R137): as EXTEST with scan chain 4, whatever SCREG holds. -/
def execItrsel (s : State) : Result State := tckCycle (chainLeg .extest 4) s

/-- IDcode (rule R138). -/
def execIdcode (s : State) : Result State := tckCycle idcodeLeg s

/-- Bypass (rule R139). -/
def execBypass (s : State) : Result State := tckCycle bypassLeg s

/-- Reserved code 0x01: Bypass (30_encoding.md rule R103, rule R139). -/
def execReserved01 (s : State) : Result State := tckCycle bypassLeg s

/-- Reserved code 0x03: Bypass (30_encoding.md rule R103, rule R139). -/
def execReserved03 (s : State) : Result State := tckCycle bypassLeg s

/-- Reserved code 0x05: Bypass (30_encoding.md rule R103, rule R139). -/
def execReserved05 (s : State) : Result State := tckCycle bypassLeg s

/-- Reserved code 0x06: Bypass (30_encoding.md rule R103, rule R139). -/
def execReserved06 (s : State) : Result State := tckCycle bypassLeg s

/-- Reserved code 0x07: Bypass (30_encoding.md rule R103, rule R139). -/
def execReserved07 (s : State) : Result State := tckCycle bypassLeg s

/-- Reserved code 0x09: Bypass (30_encoding.md rule R103, rule R139). -/
def execReserved09 (s : State) : Result State := tckCycle bypassLeg s

/-- Reserved code 0x0A: Bypass (30_encoding.md rule R103, rule R139). -/
def execReserved0A (s : State) : Result State := tckCycle bypassLeg s

/-- Reserved code 0x0B: Bypass (30_encoding.md rule R103, rule R139). -/
def execReserved0B (s : State) : Result State := tckCycle bypassLeg s

/-- Reserved code 0x0D: Bypass (30_encoding.md rule R103, rule R139). -/
def execReserved0D (s : State) : Result State := tckCycle bypassLeg s

/-- Reserved code 0x0E: Bypass (30_encoding.md rule R103, rule R139). -/
def execReserved0E (s : State) : Result State := tckCycle bypassLeg s

/-- Reserved code 0x0F: Bypass (30_encoding.md rule R103, rule R139). -/
def execReserved0F (s : State) : Result State := tckCycle bypassLeg s

/-- Reserved code 0x10: Bypass (30_encoding.md rule R103, rule R139). -/
def execReserved10 (s : State) : Result State := tckCycle bypassLeg s

/-- Reserved code 0x11: Bypass (30_encoding.md rule R103, rule R139). -/
def execReserved11 (s : State) : Result State := tckCycle bypassLeg s

/-- Reserved code 0x12: Bypass (30_encoding.md rule R103, rule R139). -/
def execReserved12 (s : State) : Result State := tckCycle bypassLeg s

/-- Reserved code 0x13: Bypass (30_encoding.md rule R103, rule R139). -/
def execReserved13 (s : State) : Result State := tckCycle bypassLeg s

/-- Reserved code 0x14: Bypass (30_encoding.md rule R103, rule R139). -/
def execReserved14 (s : State) : Result State := tckCycle bypassLeg s

/-- Reserved code 0x15: Bypass (30_encoding.md rule R103, rule R139). -/
def execReserved15 (s : State) : Result State := tckCycle bypassLeg s

/-- Reserved code 0x16: Bypass (30_encoding.md rule R103, rule R139). -/
def execReserved16 (s : State) : Result State := tckCycle bypassLeg s

/-- Reserved code 0x17: Bypass (30_encoding.md rule R103, rule R139). -/
def execReserved17 (s : State) : Result State := tckCycle bypassLeg s

/-- Reserved code 0x18: Bypass (30_encoding.md rule R103, rule R139). -/
def execReserved18 (s : State) : Result State := tckCycle bypassLeg s

/-- Reserved code 0x19: Bypass (30_encoding.md rule R103, rule R139). -/
def execReserved19 (s : State) : Result State := tckCycle bypassLeg s

/-- Reserved code 0x1A: Bypass (30_encoding.md rule R103, rule R139). -/
def execReserved1A (s : State) : Result State := tckCycle bypassLeg s

/-- Reserved code 0x1B: Bypass (30_encoding.md rule R103, rule R139). -/
def execReserved1B (s : State) : Result State := tckCycle bypassLeg s

/-- Reserved code 0x1C: Bypass (30_encoding.md rule R103, rule R139). -/
def execReserved1C (s : State) : Result State := tckCycle bypassLeg s

end Sys2Proof.Machine
end

