-- ==== Sys2Proof/Machine/Dispatch.lean ====
section
/-! DEFINITION. The meaning of every instruction: one arm per constructor of Instr. -/

namespace Sys2Proof.Machine

def exec (i : Instr) (s : State) : Host.Outcome State Fault Refusal :=
  match i with
  | .extest => Sys2Proof.Machine.execExtest s
  | .reserved01 => Sys2Proof.Machine.execReserved01 s
  | .scanN => Sys2Proof.Machine.execScanN s
  | .reserved03 => Sys2Proof.Machine.execReserved03 s
  | .restart => Sys2Proof.Machine.execRestart s
  | .reserved05 => Sys2Proof.Machine.execReserved05 s
  | .reserved06 => Sys2Proof.Machine.execReserved06 s
  | .reserved07 => Sys2Proof.Machine.execReserved07 s
  | .halt => Sys2Proof.Machine.execHalt s
  | .reserved09 => Sys2Proof.Machine.execReserved09 s
  | .reserved0A => Sys2Proof.Machine.execReserved0A s
  | .reserved0B => Sys2Proof.Machine.execReserved0B s
  | .intest => Sys2Proof.Machine.execIntest s
  | .reserved0D => Sys2Proof.Machine.execReserved0D s
  | .reserved0E => Sys2Proof.Machine.execReserved0E s
  | .reserved0F => Sys2Proof.Machine.execReserved0F s
  | .reserved10 => Sys2Proof.Machine.execReserved10 s
  | .reserved11 => Sys2Proof.Machine.execReserved11 s
  | .reserved12 => Sys2Proof.Machine.execReserved12 s
  | .reserved13 => Sys2Proof.Machine.execReserved13 s
  | .reserved14 => Sys2Proof.Machine.execReserved14 s
  | .reserved15 => Sys2Proof.Machine.execReserved15 s
  | .reserved16 => Sys2Proof.Machine.execReserved16 s
  | .reserved17 => Sys2Proof.Machine.execReserved17 s
  | .reserved18 => Sys2Proof.Machine.execReserved18 s
  | .reserved19 => Sys2Proof.Machine.execReserved19 s
  | .reserved1A => Sys2Proof.Machine.execReserved1A s
  | .reserved1B => Sys2Proof.Machine.execReserved1B s
  | .reserved1C => Sys2Proof.Machine.execReserved1C s
  | .itrsel => Sys2Proof.Machine.execItrsel s
  | .idcode => Sys2Proof.Machine.execIdcode s
  | .bypass => Sys2Proof.Machine.execBypass s
  | .chain0Didr => Sys2Proof.Machine.execChain0Didr s
  | .chain1Dscr => Sys2Proof.Machine.execChain1Dscr s
  | .chain2To3 low => Sys2Proof.Machine.execChain2To3 low s
  | .chain4Itr => Sys2Proof.Machine.execChain4Itr s
  | .chain5Dtr => Sys2Proof.Machine.execChain5Dtr s
  | .chain6Etm => Sys2Proof.Machine.execChain6Etm s
  | .chain7DebugRegs => Sys2Proof.Machine.execChain7DebugRegs s
  | .chain8To15 low => Sys2Proof.Machine.execChain8To15 low s
  | .chain16To31 low => Sys2Proof.Machine.execChain16To31 low s
  | .null d w => Sys2Proof.Machine.execNull d w s
  | .reserved1To6 a d w => Sys2Proof.Machine.execReserved1To6 a d w s
  | .vcr d w => Sys2Proof.Machine.execVcr d w s
  | .pc d w => Sys2Proof.Machine.execPc d w s
  | .norow9To18 a d w => Sys2Proof.Machine.execNorow9To18 a d w s
  | .reserved19To63 a d w => Sys2Proof.Machine.execReserved19To63 a d w s
  | .bvr0 d w => Sys2Proof.Machine.execBvr0 d w s
  | .bvr1 d w => Sys2Proof.Machine.execBvr1 d w s
  | .bvr2 d w => Sys2Proof.Machine.execBvr2 d w s
  | .bvr3 d w => Sys2Proof.Machine.execBvr3 d w s
  | .bvr4 d w => Sys2Proof.Machine.execBvr4 d w s
  | .bvr5 d w => Sys2Proof.Machine.execBvr5 d w s
  | .reserved70To79 a d w => Sys2Proof.Machine.execReserved70To79 a d w s
  | .bcr0 d w => Sys2Proof.Machine.execBcr0 d w s
  | .bcr1 d w => Sys2Proof.Machine.execBcr1 d w s
  | .bcr2 d w => Sys2Proof.Machine.execBcr2 d w s
  | .bcr3 d w => Sys2Proof.Machine.execBcr3 d w s
  | .bcr4 d w => Sys2Proof.Machine.execBcr4 d w s
  | .bcr5 d w => Sys2Proof.Machine.execBcr5 d w s
  | .reserved86To95 a d w => Sys2Proof.Machine.execReserved86To95 a d w s
  | .wvr0 d w => Sys2Proof.Machine.execWvr0 d w s
  | .wvr1 d w => Sys2Proof.Machine.execWvr1 d w s
  | .reserved98To111 a d w => Sys2Proof.Machine.execReserved98To111 a d w s
  | .wcr0 d w => Sys2Proof.Machine.execWcr0 d w s
  | .wcr1 d w => Sys2Proof.Machine.execWcr1 d w s
  | .reserved114To127 a d w => Sys2Proof.Machine.execReserved114To127 a d w s

end Sys2Proof.Machine
end

