-- ==== Sys2Proof/Machine/ArmExec.lean ====
section
/-! DEFINITION. The second instruction stream: the ARM words issued from the ITR (42_debug_execution.md).
The words to which the source gives an effect have that effect (rule R206); their encodings are
95_test_vectors.md section 5 (assumption log 31). Every other word, and every form of these words that
the source leaves open, is the parameter `Config.coreExec` (00_scope.md rules R5, R6; log 31, 32). -/

namespace Sys2Proof.Machine

/-- The instructions rule R206 names, and the DSCR read of rule R202. -/
inductive ArmOp where
  /-- `MCR p14,0,Rd,c0,c5,0` -/
  | dtrWrite (rd : BitVec 4)
  /-- `MRC p14,0,Rd,c0,c5,0` -/
  | dtrRead (rd : BitVec 4)
  /-- `MRC p14,0,Rd,c0,c1,0` -/
  | dscrRead (rd : BitVec 4)
  /-- `LDC p14,c5,[R0],#4` -/
  | ldcDtr
  /-- `STC p14,c5,[R0],#4` -/
  | stcDtr
  /-- `MRS R0,CPSR` -/
  | mrsCpsr
  /-- `MRS R0,SPSR` -/
  | mrsSpsr
  /-- `MSR CPSR,R0`, with the bits it may write -/
  | msrCpsr (fields : Word)
  /-- `MSR SPSR,R0` -/
  | msrSpsr
  /-- `MOV R0,PC` -/
  | movFromPc
  /-- `MOV PC,R0` -/
  | movToPc
  /-- `LDRH R1,[R0],#2` -/
  | ldrh
  /-- `LDRB R1,[R0],#1` -/
  | ldrb
  /-- `STRH R1,[R0],#2` -/
  | strh
  /-- `STRB R1,[R0],#1` -/
  | strb
  /-- `MCR p15,0,Rd,c7,c10,4`, the Data Synchronization Barrier -/
  | barrier
  /-- `MRC px,y,R0,ca,cb,z`, any coprocessor register but those above -/
  | coprocRead
  /-- `MCR px,y,R0,ca,cb,z`, any coprocessor register but those above -/
  | coprocWrite
  /-- any other word -/
  | other
deriving DecidableEq, Repr

/-- Rd, bits [15:12] of a coprocessor transfer. -/
def armRd (w : Word) : BitVec 4 := w.extractLsb' 12 4

/-- The word with its Rd field cleared. -/
def withoutRd (w : Word) : Word := w &&& 0xFFFF0FFF

/-- The bits that make a word `MRC px,y,R0,ca,cb,z` or `MCR px,y,R0,ca,cb,z`, whatever px, y, ca, cb and z
are: condition, class, direction, Rd and bit 4 (PRESUMED, assumption log 31). -/
def coprocFields (w : Word) : Word := w &&& 0xFF10F010

/-- The words of 95_test_vectors.md section 5 (assumption log 31). -/
def decodeArm (w : Word) : ArmOp :=
  if withoutRd w = 0xEE000E15 then .dtrWrite (armRd w)
  else if withoutRd w = 0xEE100E15 then .dtrRead (armRd w)
  else if withoutRd w = 0xEE100E11 then .dscrRead (armRd w)
  else if withoutRd w = 0xEE070F9A then .barrier
  else if w = 0xECB05E01 then .ldcDtr
  else if w = 0xECA05E01 then .stcDtr
  else if w = 0xE10F0000 then .mrsCpsr
  else if w = 0xE14F0000 then .mrsSpsr
  else if w = 0xE12FF000 then .msrCpsr 0xFFFFFFFF
  else if w = 0xE129F000 then .msrCpsr 0xFF0000FF
  else if w = 0xE16FF000 then .msrSpsr
  else if w = 0xE1A0000F then .movFromPc
  else if w = 0xE1A0F000 then .movToPc
  else if w = 0xE0D010B2 then .ldrh
  else if w = 0xE4D01001 then .ldrb
  else if w = 0xE0C010B2 then .strh
  else if w = 0xE4C01001 then .strb
  else if coprocFields w = 0xEE100010 then .coprocRead
  else if coprocFields w = 0xEE000010 then .coprocWrite
  else .other

/-- Where R0 to R14 of a mode stand in the register file; none for R15, and for R8 to R14 of a mode the
family does not name (10_state.md rule R51; assumption log 30). -/
def gprIndex (mode : BitVec 5) (r : BitVec 4) : Option (Fin 32) :=
  let n := r.toNat
  if n = 15 then none
  else if n < 8 then some (Fin.ofNat 32 n)
  else
    match mode.toNat with
    | 0x10 => some (Fin.ofNat 32 n)
    | 0x1F => some (Fin.ofNat 32 n)
    | 0x11 => some (Fin.ofNat 32 (n + 7))
    | 0x12 => some (Fin.ofNat 32 (if n < 13 then n else n + 9))
    | 0x13 => some (Fin.ofNat 32 (if n < 13 then n else n + 11))
    | 0x17 => some (Fin.ofNat 32 (if n < 13 then n else n + 13))
    | 0x1B => some (Fin.ofNat 32 (if n < 13 then n else n + 15))
    | 0x16 => some (Fin.ofNat 32 (if n < 13 then n else n + 17))
    | _ => none

/-- Where the SPSR of a mode stands; none for the modes that have none (assumption log 30). -/
def spsrIndex (mode : BitVec 5) : Option (Fin 6) :=
  match mode.toNat with
  | 0x11 => some 0
  | 0x12 => some 1
  | 0x13 => some 2
  | 0x17 => some 3
  | 0x1B => some 4
  | 0x16 => some 5
  | _ => none

/-- A register of the current mode. -/
def CoreRegs.readGpr (c : CoreRegs) (r : BitVec 4) : Option Word :=
  (gprIndex (cpsrMode c.cpsr) r).map fun i => c.gpr[i]

/-- The registers after one of the current mode is written. -/
def CoreRegs.writeGpr (c : CoreRegs) (r : BitVec 4) (v : Word) : Option CoreRegs :=
  (gprIndex (cpsrMode c.cpsr) r).map fun i => { c with gpr := c.gpr.set i.val v i.isLt }

/-- R0, which every mode shares. -/
def CoreRegs.r0 (c : CoreRegs) : Word := c.gpr[0]

/-- The registers after R0 is written. -/
def CoreRegs.setR0 (c : CoreRegs) (v : Word) : CoreRegs := { c with gpr := c.gpr.set 0 v }

/-- R1, which every mode shares. -/
def CoreRegs.r1 (c : CoreRegs) : Word := c.gpr[1]

/-- The registers after R1 is written. -/
def CoreRegs.setR1 (c : CoreRegs) (v : Word) : CoreRegs := { c with gpr := c.gpr.set 1 v }

/-- The state with other core registers. -/
def State.setRegs (c : CoreRegs) (s : State) : State := { s with core.regs := c }

/-- The coprocessors as a transfer finds them (assumption log 54). -/
def State.coprocView (s : State) : CoprocView where
  state :=
    { coproc := s.core.regs.coproc, nonSecure := s.core.regs.nonSecure, suiden := s.core.regs.suiden
      bigEndian := s.core.regs.bigEndian, vcr := s.dbg.vcr, bvr := s.dbg.bvr, bcr := s.dbg.bcr
      wvr := s.dbg.wvr, wcr := s.dbg.wcr }
  didr := s.cfg.didr
  dscr := s.dscr
  cpsr := s.core.regs.cpsr
  spiden := s.pins.spiden

/-- The state with the coprocessors as a transfer leaves them (assumption log 54). -/
def State.setCoproc (c : CoprocState) (s : State) : State :=
  { s with
    core.regs.coproc := c.coproc, core.regs.nonSecure := c.nonSecure, core.regs.suiden := c.suiden
    core.regs.bigEndian := c.bigEndian, core.drained := false
    dbg.vcr := c.vcr, dbg.bvr := c.bvr, dbg.bcr := c.bcr, dbg.wvr := c.wvr, dbg.wcr := c.wcr }

/-- The question to the parameter `CoreExec` (42_debug_execution.md rule R192). -/
def State.coreQuery (w : Word) (abort : Bool) (s : State) : CoreQuery where
  word := w
  regs := s.core.regs
  mem := s.core.mem
  rdtr := s.dbg.rdtr
  rdtrEmpty := s.dbg.rdtrEmpty
  wdtr := s.dbg.wdtr
  wdtrFull := s.dbg.wdtrFull
  view := s.coprocView
  entryIsa := s.core.entryIsa
  abort := abort

/-- The registers and stores of an effect. -/
def State.applyEffect (e : CoreEffect) (s : State) : State :=
  { s with core.regs := e.regs, core.mem := s.core.mem.writeAll e.stores }

/-- A word to which the source gives no effect: the parameter decides. One that ends in an abort or in an
Undefined exception has no other effect than its flag (60_exceptions.md rule R275), none on CP15's fault registers
either (DESIGN CHOICE, assumption log 47). Whatever the
outcome, an imprecise Data Abort caused by the word may arise (42_debug_execution.md rule R192, 60_exceptions.md
rule R280; assumption log 38). What it may change are the registers and memory of the core, CP14's registers but
the DSCR, and the DTRs (10_state.md rule R51, 92_eei_decisions.md D20; assumption log 54). -/
def State.openExec (w : Word) (abort : Bool) (s : State) : State × CoreOutcome :=
  let a := Config.coreExec (s.coreQuery w abort)
  match a.outcome with
  | .done =>
    let t := State.applyEffect a.effect { s with
      core.drained := false
      dbg.vcr := a.vcr, dbg.bvr := a.bvr, dbg.bcr := a.bcr, dbg.wvr := a.wvr, dbg.wcr := a.wcr }
    let t := if a.rdtrRead then t.readRdtr else t
    match a.wdtrWrite with
    | some v => (t.writeWdtr v, .done)
    | none => (t, .done)
  | o => ({ s with core.drained := false }, o)

/-- A form that the source leaves open of a word it names, none of which writes the PC: the parameter
decides but for the PC, which stays (10_state.md rule R52, 42_debug_execution.md rule R194; assumption log 32). -/
def State.openForm (w : Word) (abort : Bool) (s : State) : State × CoreOutcome :=
  let r := s.openExec w abort
  ({ r.1 with core.regs.pc := s.core.regs.pc }, r.2)

/-- A data access at R0 of an aligned address: aborted it has no effect and R0 stays (60_exceptions.md
rule R276), else R0 moves on by its size. Either way an imprecise Data Abort may follow (42_debug_execution.md
rule R192). A misaligned one is the parameter's (20_memory.md rule R79; assumption log 32). Which alignment an
address needs R79 leaves out: a multiple of the access's size, 4, 2 or 1, is the model's choice (assumption log 32). An
aborted access leaves the registers of CP15 as they are, its fault status and address registers among them, which
60_exceptions.md rule R275 leaves to a chapter not supplied: the model's choice (DESIGN CHOICE, assumption log 47). -/
def State.access (w : Word) (abort : Bool) (size : Word) (f : Word → State → State) (s : State) :
    State × CoreOutcome :=
  let a := s.core.regs.r0
  if a &&& (size - 1) = 0 then
    if abort then ({ s with core.drained := false }, .preciseAbort)
    else
      let t := f a { s with core.drained := false }
      (t.setRegs (t.core.regs.setR0 (a + size)), .done)
  else s.openForm w abort

/-- The state after a store by the core: the low `n` bytes of the value. That STRH and STRB store R1[15:0] and
R1[7:0] the family says (PRESUMED, assumption log 34): 42_debug_execution.md rule R206 says only "halfword or byte
store from R1". -/
def State.storeAt (n : Nat) (a v : Word) (s : State) : State :=
  { s with core.mem := s.core.mem.writeAll (storeBytes s.core.regs.bigEndian n a v) }

/-- `LDC p14,c5,[R0],#4`: the word at R0 to the wDTR. -/
def State.loadToWdtr (a : Word) (s : State) : State :=
  s.writeWdtr (s.core.mem.loadWord s.core.regs.bigEndian a)

/-- `STC p14,c5,[R0],#4`: the rDTR to the word at R0. -/
def State.storeFromRdtr (a : Word) (s : State) : State :=
  State.readRdtr (s.storeAt 4 a s.dbg.rdtr)

/-- What `MOV R0,PC` reads: the resume address plus 8, 4 or 0 by the state at entry to Debug state
(10_state.md rule R52, 60_exceptions.md rule R285; assumption log 37). The sum wraps modulo 2^32: rule R52
says that wrap-around "is not discussed", so this is the model's choice (DESIGN CHOICE, assumption log 37). -/
def State.pcRead (s : State) : Word :=
  match s.core.entryIsa with
  | .arm => s.core.regs.pc + 8
  | .thumb => s.core.regs.pc + 4
  | .jazelle => s.core.regs.pc
  | .other => Config.pcReadOther s.core.regs.pc

/-- `MSR CPSR,R0`, where rule R198 of 42_debug_execution.md lets the CPSR take the new value. From User mode in the
Secure world with SPIDEN deasserted (91_not_in_source.md N36), and to a mode that is not permitted, which the
spec does not go on to describe either, it is the parameter's (assumption log 36). -/
def State.writeCpsr (w : Word) (abort : Bool) (fields : Word) (s : State) : State × CoreOutcome :=
  let v := (s.core.regs.cpsr &&& ~~~fields) ||| (s.core.regs.r0 &&& fields)
  if s.mayWriteCpsr v then (s.setRegs { s.core.regs with cpsr := v }, .done)
  else s.openForm w abort

/-- The NOP of 43_macros_sequences.md rule R242: after a barrier it takes the pending imprecise Data
Aborts (60_exceptions.md rule R277; assumption log 38). -/
def State.nopTakesAborts (s : State) : State :=
  if s.core.drained && decide (0 < s.core.pendingAborts) then
    State.setDscrBit 7 true { s with core.pendingAborts := 0 }
  else s

/-- A core read of the rDTR into R15 sets the CPSR flags (42_debug_execution.md rule R206; log 35). -/
def State.rdtrToFlags (s : State) : State :=
  State.setRegs { s.core.regs with
    cpsr := Config.mrcFlags s.dbg.rdtr s.core.regs.cpsr ++ s.core.regs.cpsr.extractLsb' 0 28 }
    s.readRdtr

/-- `MRC px,y,R0,ca,cb,z`: a coprocessor register to R0 (42_debug_execution.md rule R206; assumption log 54).
It ends done or Undefined and in no precise Data Abort: rule R206 is silent on that (DESIGN CHOICE, log 54). -/
def State.coprocToR0 (w : Word) (s : State) : State × CoreOutcome :=
  match Config.coprocRead w s.coprocView with
  | some (v, c) =>
    let t := s.setCoproc c
    (t.setRegs (t.core.regs.setR0 v), .done)
  | none => ({ s with core.drained := false }, .undefined)

/-- `MCR px,y,R0,ca,cb,z`: R0 to a coprocessor register (42_debug_execution.md rule R206; assumption log 54).
It ends done or Undefined and in no precise Data Abort: rule R206 is silent on that (DESIGN CHOICE, log 54). -/
def State.r0ToCoproc (w : Word) (s : State) : State × CoreOutcome :=
  match Config.coprocWrite w s.coprocView s.core.regs.r0 with
  | some c => (s.setCoproc c, .done)
  | none => ({ s with core.drained := false }, .undefined)

/-- Execution of an ARM word, issued in Debug state or an access of the DCC by running software
(42_debug_execution.md rules R192, R199, R200, R206). -/
def State.armExec (w : Word) (abort : Bool) (s : State) : State × CoreOutcome :=
  match decodeArm w with
  | .dtrWrite rd =>
    if rd = 15 then (s, .undefined)
    else match s.core.regs.readGpr rd with
      | some v => (s.writeWdtr v, .done)
      | none => s.openForm w abort
  | .dtrRead rd =>
    if rd = 15 then (s.rdtrToFlags, .done)
    else match s.core.regs.writeGpr rd s.dbg.rdtr with
      | some c => (State.readRdtr (s.setRegs c), .done)
      | none => s.openForm w abort
  | .dscrRead rd =>
    match s.core.regs.writeGpr rd s.dscr with
    | some c => (s.setRegs c, .done)
    | none => s.openForm w abort
  | .ldcDtr => s.access w abort 4 State.loadToWdtr
  | .stcDtr => s.access w abort 4 State.storeFromRdtr
  | .mrsCpsr => (s.setRegs (s.core.regs.setR0 s.core.regs.cpsr), .done)
  | .mrsSpsr =>
    match spsrIndex (cpsrMode s.core.regs.cpsr) with
    | some i => (s.setRegs (s.core.regs.setR0 s.core.regs.spsr[i]), .done)
    | none => s.openForm w abort
  | .msrCpsr fields => s.writeCpsr w abort fields
  | .msrSpsr =>
    match spsrIndex (cpsrMode s.core.regs.cpsr) with
    | some i =>
      (s.setRegs { s.core.regs with spsr := s.core.regs.spsr.set i.val s.core.regs.r0 i.isLt }, .done)
    | none => s.openForm w abort
  | .movFromPc => (s.setRegs (s.core.regs.setR0 s.pcRead), .done)
  | .movToPc => (s.setRegs { s.core.regs with pc := s.core.regs.r0 }, .done)
  | .ldrh =>
    s.access w abort 2 fun a t =>
      t.setRegs (t.core.regs.setR1 ((t.core.mem.loadHalf t.core.regs.bigEndian a).setWidth 32))
  | .ldrb =>
    s.access w abort 1 fun a t =>
      t.setRegs (t.core.regs.setR1 ((t.core.mem.loadByte a).setWidth 32))
  | .strh => s.access w abort 2 fun a t => t.storeAt 2 a t.core.regs.r1
  | .strb => s.access w abort 1 fun a t => t.storeAt 1 a t.core.regs.r1
  | .barrier => ({ s with core.drained := true }, .done)
  | .coprocRead => s.coprocToR0 w
  | .coprocWrite => s.r0ToCoproc w
  | .other => if w = s.cfg.nopWord then (s.nopTakesAborts, .done) else s.openExec w abort

/-- An access of the DCC by running software as the word it executes (assumption log 31). -/
def DccOp.word : DccOp → Word
  | .mcr rd => 0xEE00#16 ++ (rd ++ 0xE15#12)
  | .mrc rd => 0xEE10#16 ++ (rd ++ 0xE15#12)
  | .ldc => 0xECB05E01
  | .stc => 0xECA05E01
  | .readDscr rd => 0xEE10#16 ++ (rd ++ 0xE11#12)

/-- `Complete()` (42_debug_execution.md rule R192): all effects, the flag of an exception, then
`InstCompl` returns to 1; one atomic step (assumption log 44). -/
def State.completeInstruction (abort : Bool) (s : State) : State :=
  match s.core.inFlight with
  | none => s
  | some w =>
    let r := s.armExec w abort
    { State.recordOutcome r.2 r.1 with core.inFlight := none, dbg.instCompl := true }

end Sys2Proof.Machine
end

