-- ==== Sys2Proof/Machine/Agents.lean ====
section
/-! DEFINITION. The steps of the other agents and of the pins (00_scope.md rule R10; 60_exceptions.md). A
step listed while its agent cannot take it changes nothing (assumption log 50). -/

namespace Sys2Proof.Machine

/-- DBGnTRST (70_reset_and_hazards.md rule R310): asserted, it forces Test-Logic-Reset at once. -/
def State.setTrst (asserted : Bool) (s : State) : State :=
  if asserted then State.heldInReset { s with pins.trst := true } else { s with pins.trst := false }

/-- The halt step of the core (60_exceptions.md rule R273). `DebugPermitted` is read at this step, from the
pins and the core's state as they are now, so that a request made while debug was permitted waits once it is not
(00_scope.md rule R6; assumption log 22, 51). -/
def State.coreHaltStep (s : State) : State :=
  if s.core.haltReq && !s.core.debugState && s.debugPermitted then
    { s.enterDebugState with core.haltReq := false }
  else s

/-- The restart step of the core (60_exceptions.md rule R283). -/
def State.coreRestartStep (s : State) : Result State :=
  if s.core.restartReq then s.leaveDebugState else .next s

/-- A step of the core's own software. In Debug state the core executes nothing of its own
(42_debug_execution.md rule R194). With DSCR[13] = 0 the step may change DSCR[6] (41_scan_chains.md rule
R157 d; assumption log 18). It changes no other DSCR bit: rule R41 keeps bit 14 from software, and the spec
gives software no write of bit 15, which only an update of scan chain 1 with bit 15 in the mask sets
(43_macros_sequences.md rule R260; DESIGN CHOICE, assumption log 55). -/
def State.coreRunsStep (e : CoreEffect) (dscr6 : Option Bool) (s : State) : State :=
  if s.core.debugState then s
  else
    match dscr6 with
    | some b => if s.execEnabled then s.applyEffect e else (s.applyEffect e).setDscrBit 6 b
    | none => s.applyEffect e

/-- Running software may access the DCC: not in User mode, which the CPSR names, while DSCR[12] is set
(10_state.md rule R39, 42_debug_execution.md rule R201; assumption log 42). -/
def State.softwareMayAccess (s : State) : Bool :=
  !s.core.debugState && !(s.userDccDisabled && s.core.regs.userMode)

/-- Running software writes the wDTR, reads the rDTR or reads the DSCR (42_debug_execution.md rules R199, R200,
R202): the effect of the instruction, which is that of the word issued in Debug state (rule R206). The forms the
spec leaves open, R15 or a register of a mode the family does not name as Rd of a DSCR read among them, are
`Config.coreExec`'s as they are there (assumption log 32, 35, 56). -/
def State.softwareDccStep (op : DccOp) (abort : Bool) (s : State) : State :=
  if s.softwareMayAccess then (s.armExec op.word abort).1 else s

/-- A software debug event (60_exceptions.md rules R271, R279, R282). Entering discharges a pending Halt
request, so that the two lead to one entry (rule R280; assumption log 24). -/
def State.softwareDebugEventStep (kind : DebugEventKind) (s : State) : Result State :=
  if s.core.debugState then .next s
  else if s.haltingMode && s.debugPermitted then
    .next { s.enterDebugState with core.haltReq := false }
  else if s.monitorMode then
    .next (s.applyEffect (Config.monitorException kind s.core.regs))
  else .refused .debugEventUndescribed

/-- An interrupt of the core: ignored in Debug state (60_exceptions.md rule R281; assumption log 43). -/
def State.interruptStep (taken : CoreEffect) (s : State) : State :=
  if s.core.debugState then s else s.applyEffect taken

/-- An imprecise Data Abort becomes pending; none can after the write buffer is drained. From here on "the
state of memory and of R0 is not to be trusted": the bytes listed, and in Debug state R0, hold what the
input says (60_exceptions.md rule R277, 42_debug_execution.md rule R208; assumption log 38). -/
def State.abortArisesStep (r0 : Word) (stores : List (Word × Byte)) (s : State) : State :=
  if s.core.drained then s
  else
    { s with
      core.pendingAborts := s.core.pendingAborts + 1
      core.mem := s.core.mem.writeAll stores
      core.regs := if s.core.debugState then s.core.regs.setR0 r0 else s.core.regs }

/-- A pending imprecise Data Abort is recognised: in Debug state it sets DSCR[7] and does nothing else
(60_exceptions.md rule R277; assumption log 38). Outside Debug state what the core does is "not in this source"
(R277): here the abort only leaves the pending ones, and the exception the core takes for it is a step of its
own, `coreRuns`, with any effect (DESIGN CHOICE, assumption log 38). -/
def State.abortRecognisedStep (s : State) : State :=
  if s.core.pendingAborts = 0 then s
  else
    let t := { s with core.pendingAborts := s.core.pendingAborts - 1 }
    if s.core.debugState then t.setDscrBit 7 true else t

/-- The stored DSCR bits after a processor reset: bits 13, 14, 15 are 0 (70_reset_and_hazards.md rule R313). -/
def resetDscr (v : Word) : Word := v &&& ~~~(0x6000E003 : Word)

/-- A processor reset (70_reset_and_hazards.md rules R312, R313; assumption log 28): the debug unit and
the core start again, the DBGTAP controller is not touched. What a processor reset does to the ETM
behind scan chain 6 the spec does not say (10_state.md rule R55): `etm` is left as it is (DESIGN CHOICE,
assumption log 28, 40). -/
def State.processorResetStep (v : ProcessorResetValues) (s : State) : State :=
  State.applyEdbgrq (State.applyEffect v.core { s with
    dbg :=
      { dscrBits := resetDscr v.dscr, coreRestarted := v.coreRestarted, itr := v.itr
        instCompl := true, rdtr := v.rdtr, rdtrEmpty := v.rdtrEmpty
        wdtr := v.wdtr, wdtrFull := v.wdtrFull, req := none, rdData := none
        vcr := v.vcr, bvr := v.bvr, bcr := v.bcr, wvr := v.wvr, wcr := v.wcr }
    core.debugState := false, core.haltReq := false, core.restartReq := false
    core.inFlight := none, core.pendingAborts := 0, core.drained := false })

/-- The step an input stands for, after it has been taken from the list. A TCK cycle and the completion of
a pending request are steps of an instruction (Machine/Fetch.lean) and do not come here. -/
def agentStep (e : Input) (s : State) : Result State :=
  match e with
  | .tck _ _ => .next s
  | .trst b => .next (s.setTrst b)
  | .dbgen b => .next (State.applyEdbgrq { s with pins.dbgen := b })
  | .spiden b => .next { s with pins.spiden := b }
  | .edbgrq b => .next (State.applyEdbgrq { s with pins.edbgrq := b })
  | .engine => .next s
  | .etm => .next { s with etm := Config.etmStep s.etm }
  | .coreHalt => .next s.coreHaltStep
  | .coreRestart => s.coreRestartStep
  | .coreComplete abort => .next (s.completeInstruction abort)
  | .coreRuns e d => .next (s.coreRunsStep e d)
  | .softwareDcc op abort => .next (s.softwareDccStep op abort)
  | .softwareDebugEvent kind => s.softwareDebugEventStep kind
  | .interrupt taken => .next (s.interruptStep taken)
  | .impreciseAbortArises r0 stores => .next (s.abortArisesStep r0 stores)
  | .impreciseAbortRecognised => .next s.abortRecognisedStep
  | .coreSetsDscr19 => .next (s.setDscrBit 19 true)
  | .processorReset v => .next (s.processorResetStep v)

/-- A step of the environment: the next input that is no step of an instruction. With nothing left to
happen the machine stays as it is (assumption log 1). -/
def environmentStep (s : State) : Result State :=
  match s.env.inputs with
  | [] => .next s
  | e :: rest => agentStep e { s with env.inputs := rest }

end Sys2Proof.Machine
end

