-- ==== Sys2Proof/Machine/Fetch.lean ====
section
/-! DEFINITION. Which word of the opcode table governs the next step, and how a table word is put where
the machine takes it from (assumption log 45). -/

namespace Sys2Proof.Machine

/-- The word that governs a TCK cycle. While INTEST, EXTEST or ITRsel connects a scan chain, the DR
actions of the cycle are the chain's: in Capture-DR and Shift-DR, and on entry to Update-DR, where chain 7
holds a request (41_scan_chains.md rule R150). Every other cycle is the current instruction's. -/
def State.cycleFrame (tms : Bool) (s : State) : Frame :=
  match effective s.ctl.ir s.ctl.screg with
  | none => .ir5 s.ctl.ir
  | some (_, c) =>
    if s.pins.trst then .ir5 s.ctl.ir
    else
      match s.ctl.tap with
      | .captureDr => .screg5 c
      | .shiftDr => .screg5 c
      | .exit1Dr => if tms then (if c = 7 then .sc7req s.ctl.s7 else .screg5 c) else .ir5 s.ctl.ir
      | .exit2Dr => if tms then (if c = 7 then .sc7req s.ctl.s7 else .screg5 c) else .ir5 s.ctl.ir
      | _ => .ir5 s.ctl.ir

/-- A pending request as the word it was placed from (10_state.md rule R45). -/
def Request.frame (r : Request) : Frame := .sc7req (requestFrame r.address r.data r.write)

/-- The word of the next step, if that step is an instruction's: on a TCK cycle, and on a step of the
request engine while a request is pending. -/
def State.fetchFrame (s : State) : Option Frame :=
  match s.env.inputs with
  | .tck tms _ :: _ => some (s.cycleFrame tms)
  | .engine :: _ => s.dbg.req.map Request.frame
  | _ => none

/-- The state with an instruction code as the current instruction, just loaded at Update-IR, and a TCK cycle that
enters Run-Test/Idle (assumption log 45). -/
def State.withCode (s : State) (code : BitVec 5) : State :=
  { s with
    ctl.ir := code, ctl.tap := .updateIr, pins.trst := false
    env.inputs := .tck false false :: s.env.inputs }

/-- The state with a scan chain selected under INTEST, and the TCK cycle of its Capture-DR. -/
def State.withChain (s : State) (number : BitVec 5) : State :=
  { s with
    ctl.ir := 0b01100, ctl.screg := number, ctl.tap := .captureDr, pins.trst := false
    env.inputs := .tck false false :: s.env.inputs }

/-- The state with a request in scan chain 7 under EXTEST, and the TCK cycle that enters Update-DR. -/
def State.withRequest (s : State) (r : BitVec 40) : State :=
  { s with
    ctl.ir := 0b00000, ctl.screg := 7, ctl.s7 := r, ctl.reqReady := true, ctl.tap := .exit1Dr
    pins.trst := false, env.inputs := .tck true false :: s.env.inputs }

/-- The state in which the next step takes a given word. -/
def State.withFrame (s : State) : Frame → State
  | .ir5 c => s.withCode c
  | .screg5 n => s.withChain n
  | .sc7req r => s.withRequest r

end Sys2Proof.Machine
end

