-- ==== Sys2Proof/Machine/Step.lean ====
section
/-! DEFINITION. One step of the machine: the instruction of the opcode table that governs the next input,
or a step of another agent. -/

namespace Sys2Proof.Machine

/-- One step. -/
def step (s : State) : Host.Outcome State Fault Refusal :=
  match s.fetchFrame with
  | some f => exec (decode f) s
  | none => environmentStep s

/-- The state whose next step takes the host's table word `w` of `nbits` bits; unchanged where the bytes
are no word of the port. -/
def State.withFetchWord (s : State) (nbits w : Nat) : State :=
  match frameOfBytes (natToBytes ((nbits + 7) / 8) w) with
  | .ok f => s.withFrame f
  | .error _ => s

end Sys2Proof.Machine
end

