-- ==== Sys2Proof/Safety.lean ====
section
/-! DEFINITION. The terms claims use: when a TCK cycle is due and where it finds the controller, the state
after a cycle with no action, and the invariants of the machine. -/

namespace Sys2Proof.Machine

/-- A TCK cycle with these pins is the next input, and DBGnTRST is not asserted. -/
def State.due (s : State) (tms tdi : Bool) (rest : List Input) : Prop :=
  s.pins.trst = false ∧ s.env.inputs = .tck tms tdi :: rest

/-- The cycle due is one spent in Capture-DR. -/
def State.atCapture (s : State) (tms tdi : Bool) (rest : List Input) : Prop :=
  s.due tms tdi rest ∧ s.ctl.tap = .captureDr

/-- The cycle due is one spent in Shift-DR. -/
def State.atShift (s : State) (tms tdi : Bool) (rest : List Input) : Prop :=
  s.due tms tdi rest ∧ s.ctl.tap = .shiftDr

/-- The cycle due enters Update-DR. -/
def State.entersUpdate (s : State) (tdi : Bool) (rest : List Input) : Prop :=
  s.due true tdi rest ∧ (s.ctl.tap = .exit1Dr ∨ s.ctl.tap = .exit2Dr)

/-- The cycle due enters Run-Test/Idle from Update-DR or Update-IR. -/
def State.entersIdle (s : State) (tdi : Bool) (rest : List Input) : Prop :=
  s.due false tdi rest ∧ (s.ctl.tap = .updateDr ∨ s.ctl.tap = .updateIr)

/-- The state after a cycle outside the shift states that has no action: the state machine has moved. -/
def State.afterCycle (s : State) (tms : Bool) (rest : List Input) : State :=
  { s with env.inputs := rest, ctl.tdo := none, ctl.tap := s.ctl.tap.next tms }

/-- The state after a cycle in Capture-DR, but for the register captured: `Ready` is loaded. -/
def State.afterCapture (s : State) (tms : Bool) (rest : List Input) : State :=
  { s.afterCycle tms rest with ctl.ready := s.dbg.instCompl }

/-- The state after a cycle in Shift-DR that showed `b` on DBGTDO, but for the register shifted. -/
def State.afterShift (s : State) (tms : Bool) (rest : List Input) (b : Bool) : State :=
  { s.afterCycle tms rest with ctl.tdo := some b }

/-- A cycle whose state has no action and which enters a state without one, whatever is current
(10_state.md rules R21, R22). -/
def TapState.quiet (t : TapState) (tms : Bool) : Bool :=
  match t with
  | .runTestIdle => true
  | .selectDr => true
  | .exit1Dr => !tms
  | .pauseDr => true
  | .exit2Dr => !tms
  | .updateDr => tms
  | .selectIr => !tms
  | .exit1Ir => !tms
  | .pauseIr => true
  | .exit2Ir => !tms
  | .updateIr => tms
  | .testLogicReset => false
  | .captureDr => false
  | .shiftDr => false
  | .captureIr => false
  | .shiftIr => false

/-- `i` is the instruction that connects scan chain `c`, or the row of that chain, and the controller acts
as under `insn` (40_tap_instructions.md rule R131). -/
def State.connects (s : State) (i : Instr) (insn : ScanInsn) (c : BitVec 5) : Prop :=
  (s.ctl.ir = 0b00000 ∧ s.ctl.screg = c ∧ insn = .extest ∧ (i = .extest ∨ i = decodeScreg c)) ∨
  (s.ctl.ir = 0b01100 ∧ s.ctl.screg = c ∧ insn = .intest ∧ (i = .intest ∨ i = decodeScreg c)) ∨
  (s.ctl.ir = 0b11101 ∧ c = 4 ∧ insn = .extest ∧ (i = .itrsel ∨ i = .chain4Itr))

/-- The next input is the completion of the word `w` in flight (42_debug_execution.md rule R192). -/
def State.completing (s : State) (w : Word) (abort : Bool) (rest : List Input) : Prop :=
  s.env.inputs = .coreComplete abort :: rest ∧ s.core.inFlight = some w

/-- The state after a completion, but for the effects of the word. -/
def State.afterCompletion (s : State) (rest : List Input) : State :=
  { s with env.inputs := rest, core.inFlight := none, dbg.instCompl := true }

/-- The state after an input, but for its effects. -/
def State.afterInput (s : State) (rest : List Input) : State := { s with env.inputs := rest }

/-- The states of the DR leg between a capture and its update. -/
def TapState.inScan (t : TapState) : Bool :=
  t = .shiftDr || t = .exit1Dr || t = .pauseDr || t = .exit2Dr

/-- The scan chain the controller acts on, if INTEST, EXTEST or ITRsel is current. -/
def State.connectedChain (s : State) : Option (BitVec 5) :=
  (effective s.ctl.ir s.ctl.screg).map Prod.snd

/-- What holds in every state a run reaches: a safe state. -/
structure State.Inv (s : State) : Prop where
  /-- the core's memory is in canonical form -/
  memory : Memory.wf s.core.mem = true
  /-- DSCR bits 0, 1, 29 and 30 are not stored (10_state.md rule R35) -/
  views : s.dbg.dscrBits &&& 0x60000003 = 0
  /-- with DSCR[13] = 0, InstCompl = 1 (rule R57 d) -/
  disabledComplete : s.execEnabled = false → s.dbg.instCompl = true
  /-- with DSCR[6] = 1, InstCompl = 1 (rule R57 f) -/
  abortComplete : s.stickyPreciseAbort = true → s.dbg.instCompl = true
  /-- InstCompl = 0 exactly while an instruction is in flight (rule R50) -/
  inFlight : s.core.inFlight.isSome = !s.dbg.instCompl
  /-- DSCR[13] is set only in Debug state (41_scan_chains.md rule R157) -/
  enabledHalted : s.execEnabled = true → s.core.debugState = true
  /-- a Restart request is pending only in Debug state (40_tap_instructions.md rule R134) -/
  restartHalted : s.core.restartReq = true → s.core.debugState = true
  /-- a Halt request is pending only outside Debug state (40_tap_instructions.md rule R135) -/
  haltRunning : s.core.haltReq = true → s.core.debugState = false
  /-- an asserted EDBGRQ is a Halt request (60_exceptions.md rule R272) -/
  edbgrqHeld : s.pins.edbgrq = true → s.pins.dbgen = true → s.core.debugState = false →
    s.core.haltReq = true
  /-- DBGnTRST holds the controller reset (70_reset_and_hazards.md rule R310) -/
  trstHolds : s.pins.trst = true →
    s.ctl.tap = .testLogicReset ∧ s.ctl.ir = 0b11110 ∧ s.ctl.screg = 0b00011
  /-- inside a DR scan a set Ready latch is not stale (42_debug_execution.md rule R210) -/
  readyFresh : s.ctl.tap.inScan = true → s.ctl.ready = true → s.dbg.instCompl = true
  /-- inside a scan of chain 7 that may place a request, none is pending (20_memory.md rule R90) -/
  requestFresh : s.ctl.tap.inScan = true → s.connectedChain = some 7 → s.ctl.reqReady = true →
    s.dbg.req = none

end Sys2Proof.Machine
end

