-- ==== Sys2Proof/Certificates/Slice0/Obligations.lean ====
section
/-! DEFINITION. The statements for the provers, from the numbered rules of the spec. Terms such as
`State.due` and `State.connects` are those of Sys2Proof/Safety.lean. -/

open Sys2Proof Sys2Proof.Machine

/-! ### Encoding -/

/-- 30_encoding.md R102, R113, R114, R115: decoding the word of a well-formed instruction gives the
instruction back, with every operand at every value its row admits. -/
def Obligations.DecodeEncode : Prop :=
  ∀ i : Instr, i.wellFormed = true → decode (encode i) = i

/-- 30_encoding.md R102, R114, R115: each word of each of the three kinds is the word of the one instruction it
decodes to, and that instruction is well-formed. So no two rows share a word. -/
def Obligations.EncodeDecode : Prop :=
  ∀ f : Frame, encode (decode f) = f ∧ (decode f).wellFormed = true

/-- Words written out from Table 14-1, the scan chain numbers and Table 14-2 decode to their rows. -/
def Obligations.DecodeSpecWords : Prop :=
  decode (.ir5 0b00000) = .extest ∧ decode (.ir5 0b00010) = .scanN ∧
  decode (.ir5 0b00100) = .restart ∧ decode (.ir5 0b01000) = .halt ∧
  decode (.ir5 0b01100) = .intest ∧ decode (.ir5 0b11101) = .itrsel ∧
  decode (.ir5 0b11110) = .idcode ∧ decode (.ir5 0b11111) = .bypass ∧
  decode (.ir5 0b01010) = .reserved0A ∧ decode (.screg5 0b00101) = .chain5Dtr ∧
  decode (.screg5 0b01011) = .chain8To15 0b011 ∧
  decode (.sc7req 0b0000111_11001010111111101111000000001101_1) = .vcr 0xCAFEF00D true ∧
  decode (.sc7req 0b0001000_00000000000000000000000000000000_0) = .pc 0 false ∧
  decode (.sc7req 0b1010101_00000000000000000000000000000001_1) = .bcr5 1 true ∧
  decode (.sc7req 0b0001001_00000000000000000000000000000000_0) = .norow9To18 9 0 false

/-! ### Fetching and the step -/

/-- A step runs the decoded instruction: on a TCK cycle and on a completion of a pending chain 7 request
the step is the meaning of the instruction its word decodes to, at the same state; and a word placed by
`withFrame` is the word of the next step. With no request pending a request engine step only passes. -/
def Obligations.StepRunsDecodedInstruction : Prop :=
  (∀ s tms tdi rest, s.env.inputs = .tck tms tdi :: rest →
    step s = exec (decode (s.cycleFrame tms)) s) ∧
  (∀ s rest r, s.env.inputs = .engine :: rest → s.dbg.req = some r →
    step s = exec (decode (.sc7req (requestFrame r.address r.data r.write))) s) ∧
  (∀ s rest, s.env.inputs = .engine :: rest → s.dbg.req = none →
    step s = .next (s.afterInput rest)) ∧
  (∀ (s : State) f, step (s.withFrame f) = exec (decode f) (s.withFrame f))

/-- 40_tap_instructions.md R130, R131, R140 and 41_scan_chains.md R150: whichever word of the table governs a
TCK cycle, the cycle does what the instruction in the IR does, so the rows of the scan chains and of
the chain 7 requests refine EXTEST, INTEST and ITRsel and never differ from them. -/
def Obligations.CycleIsCurrentInstruction : Prop :=
  ∀ s tms tdi rest, s.env.inputs = .tck tms tdi :: rest → step s = exec (decodeIr s.ctl.ir) s

/-! ### The state machine and the resets -/

/-- 70_reset_and_hazards.md R311: a cycle spent in Test-Logic-Reset, and one that enters it, makes IDcode
current and selects scan chain 3; the debug unit, the core, the ETM, the pins and the parameters are untouched.
The shift sections and the latches become open values (log 27). -/
def Obligations.TestLogicResetResets : Prop :=
  ∀ s tms tdi rest, s.due tms tdi rest →
    (s.ctl.tap = .testLogicReset ∨ (s.ctl.tap = .selectIr ∧ tms = true)) →
    ∃ t, step s = .next t ∧ t.ctl.ir = 0b11110 ∧ t.ctl.screg = 0b00011 ∧
      t.ctl.tap = (if tms then .testLogicReset else .runTestIdle) ∧
      t.dbg = s.dbg ∧ t.core = s.core ∧ t.etm = s.etm ∧ t.pins = s.pins ∧ t.cfg = s.cfg ∧
      t.env.inputs = rest

/-- 70_reset_and_hazards.md R310 (with 92_eei_decisions.md D3; log 27): asserting DBGnTRST forces
Test-Logic-Reset at once, and every TCK cycle while it is asserted leaves the controller there. The shift sections
and the latches become open values. -/
def Obligations.DbgntrstHoldsReset : Prop :=
  (∀ s rest, s.env.inputs = .trst true :: rest →
    ∃ t, step s = .next t ∧ t.ctl.tap = .testLogicReset ∧ t.ctl.ir = 0b11110 ∧
      t.ctl.screg = 0b00011 ∧ t.pins = { s.pins with trst := true } ∧
      t.dbg = s.dbg ∧ t.core = s.core ∧ t.etm = s.etm ∧ t.cfg = s.cfg ∧ t.env.inputs = rest) ∧
  (∀ s tms tdi rest, s.env.inputs = .tck tms tdi :: rest → s.pins.trst = true →
    ∃ t, step s = .next t ∧ t.ctl.tap = .testLogicReset ∧ t.ctl.ir = 0b11110 ∧
      t.ctl.screg = 0b00011 ∧ t.pins = s.pins ∧
      t.dbg = s.dbg ∧ t.core = s.core ∧ t.etm = s.etm ∧ t.cfg = s.cfg ∧ t.env.inputs = rest) ∧
  (∀ s rest, s.env.inputs = .trst false :: rest →
    step s = .next { s.afterInput rest with pins.trst := false })

/-- 10_state.md R21: five TCK cycles with tms = 1 reach Test-Logic-Reset from any state, unless the path
through Update-DR is refused; IDcode is then current and scan chain 3 selected. -/
def Obligations.FiveCyclesReset : Prop :=
  ∀ (s : State) a b c d e rest (t : State),
    s.env.inputs = .tck true a :: .tck true b :: .tck true c :: .tck true d :: .tck true e :: rest →
    Host.Core.run Sys2Proof.core 5 s = .next t →
    t.ctl.tap = .testLogicReset ∧ t.ctl.ir = 0b11110 ∧ t.ctl.screg = 0b00011

/-- 10_state.md R23, 40_tap_instructions.md R130: an IR scan captures b00001, shifts, and loads the IR at
Update-IR, and changes nothing else, whichever row of the table is run for the cycle. -/
def Obligations.IrScan : Prop :=
  ∀ (i : Instr) (s : State),
    (∀ tms tdi rest, s.due tms tdi rest → s.ctl.tap = .captureIr →
      exec i s = .next { s.afterCycle tms rest with ctl.irs := 0b00001 }) ∧
    (∀ tms tdi rest, s.due tms tdi rest → s.ctl.tap = .shiftIr →
      exec i s = .next { s.afterCycle tms rest with
        ctl.tdo := some (s.ctl.irs.getLsbD 0)
        ctl.irs := BitVec.ofBool tdi ++ s.ctl.irs.extractLsb' 1 4 }) ∧
    (∀ tdi rest, s.due true tdi rest → s.ctl.tap = .exit1Ir ∨ s.ctl.tap = .exit2Ir →
      exec i s = .next { s.afterCycle true rest with ctl.ir := s.ctl.irs })

/-- 10_state.md R21, R22 and D6: a cycle that neither stands in nor enters a state with an action moves
the state machine and does nothing else, whichever row of the table is run for it; staying in
Run-Test/Idle is one of them. -/
def Obligations.QuietCycles : Prop :=
  ∀ (i : Instr) (s : State) tms tdi rest, s.due tms tdi rest → s.ctl.tap.quiet tms = true →
    exec i s = .next (s.afterCycle tms rest)

/-! ### The public instructions -/

/-- 40_tap_instructions.md R139: Bypass and each of the 24 reserved codes connect the bypass register,
which captures 0 and delays DBGTDI by one cycle; Update-DR and Run-Test/Idle do nothing. That this Capture-DR
too loads `Ready` is the model's choice (41_scan_chains.md R150, D7; log 9). -/
def Obligations.BypassAndReservedCodes : Prop :=
  ∀ i ∈ [Instr.bypass, .reserved01, .reserved03, .reserved05, .reserved06, .reserved07,
      .reserved09, .reserved0A, .reserved0B, .reserved0D, .reserved0E, .reserved0F, .reserved10,
      .reserved11, .reserved12, .reserved13, .reserved14, .reserved15, .reserved16, .reserved17,
      .reserved18, .reserved19, .reserved1A, .reserved1B, .reserved1C],
  ∀ s tms tdi rest,
    (s.atCapture tms tdi rest →
      exec i s = .next { s.afterCapture tms rest with ctl.byp := false }) ∧
    (s.atShift tms tdi rest →
      exec i s = .next { s.afterShift tms rest s.ctl.byp with ctl.byp := tdi }) ∧
    (s.entersUpdate tdi rest → exec i s = .next (s.afterCycle true rest)) ∧
    (s.entersIdle tdi rest → exec i s = .next (s.afterCycle false rest))

/-- 40_tap_instructions.md R138 with the layout of 10_state.md R27 (GK2, log 5): IDcode captures the device
ID code, shifts it, and does nothing at Update-DR or Run-Test/Idle. -/
def Obligations.Idcode : Prop :=
  ∀ s tms tdi rest,
    (s.atCapture tms tdi rest →
      exec .idcode s = .next { s.afterCapture tms rest with
        ctl.ids := (s.cfg.idVersion ++ 0x7B76#16) ++ (s.cfg.idManufacturer ++ 1#1) }) ∧
    (s.atShift tms tdi rest →
      exec .idcode s = .next { s.afterShift tms rest (s.ctl.ids.getLsbD 0) with
        ctl.ids := BitVec.ofBool tdi ++ s.ctl.ids.extractLsb' 1 31 }) ∧
    (s.entersUpdate tdi rest → exec .idcode s = .next (s.afterCycle true rest)) ∧
    (s.entersIdle tdi rest → exec .idcode s = .next (s.afterCycle false rest))

/-- 40_tap_instructions.md R133: Scan_N captures b10000, shifts, and loads SCREG at Update-DR;
Run-Test/Idle does nothing. That this Capture-DR too loads `Ready` is the model's choice (41_scan_chains.md R150, D7;
log 9). -/
def Obligations.ScanN : Prop :=
  ∀ s tms tdi rest,
    (s.atCapture tms tdi rest →
      exec .scanN s = .next { s.afterCapture tms rest with ctl.scs := 0b10000 }) ∧
    (s.atShift tms tdi rest →
      exec .scanN s = .next { s.afterShift tms rest (s.ctl.scs.getLsbD 0) with
        ctl.scs := BitVec.ofBool tdi ++ s.ctl.scs.extractLsb' 1 4 }) ∧
    (s.entersUpdate tdi rest →
      exec .scanN s = .next { s.afterCycle true rest with ctl.screg := s.ctl.scs }) ∧
    (s.entersIdle tdi rest → exec .scanN s = .next (s.afterCycle false rest))

/-- 40_tap_instructions.md R135 (D5, D14; log 7, 15): at entry to Run-Test/Idle Halt makes a Halt request if
the core is not in Debug state and DBGEN is asserted, and nothing otherwise; its DR leg is the bypass
register's. -/
def Obligations.Halt : Prop :=
  ∀ s tms tdi rest,
    (s.entersIdle tdi rest → s.core.debugState = false → s.pins.dbgen = true →
      exec .halt s = .next { s.afterCycle false rest with core.haltReq := true }) ∧
    (s.entersIdle tdi rest → s.core.debugState = true ∨ s.pins.dbgen = false →
      exec .halt s = .next (s.afterCycle false rest)) ∧
    (s.atCapture tms tdi rest →
      exec .halt s = .next { s.afterCapture tms rest with ctl.byp := false }) ∧
    (s.atShift tms tdi rest →
      exec .halt s = .next { s.afterShift tms rest s.ctl.byp with ctl.byp := tdi }) ∧
    (s.entersUpdate tdi rest → exec .halt s = .next (s.afterCycle true rest))

/-- 40_tap_instructions.md R134 (D5, D14, D15; log 7, 11, 15): at entry to Run-Test/Idle Restart makes a
Restart request and clears DSCR[1] in Debug state, and is refused (U13) outside it; its DR leg is the
bypass register's. -/
def Obligations.Restart : Prop :=
  ∀ s tms tdi rest,
    (s.entersIdle tdi rest → s.core.debugState = true →
      exec .restart s = .next { s.afterCycle false rest with
        core.restartReq := true, dbg.coreRestarted := false }) ∧
    (s.entersIdle tdi rest → s.core.debugState = false →
      exec .restart s = .refused .u13RestartOutsideDebug) ∧
    (s.atCapture tms tdi rest →
      exec .restart s = .next { s.afterCapture tms rest with ctl.byp := false }) ∧
    (s.atShift tms tdi rest →
      exec .restart s = .next { s.afterShift tms rest s.ctl.byp with ctl.byp := tdi }) ∧
    (s.entersUpdate tdi rest → exec .restart s = .next (s.afterCycle true rest))

/-! ### The scan chains under EXTEST, INTEST and ITRsel -/

/-- 41_scan_chains.md R152: scan chain 0 captures the implementor code 0x41 over the DIDR, under EXTEST,
INTEST and as its row CHAIN0_DIDR. That this Capture-DR too loads `Ready` is the model's choice (R150, D7; log 9). -/
def Obligations.Chain0Capture : Prop :=
  ∀ s i insn tms tdi rest, s.connects i insn 0 → s.atCapture tms tdi rest →
    exec i s = .next { s.afterCapture tms rest with ctl.s0 := 0x41#8 ++ s.cfg.didr }

/-- 41_scan_chains.md R154, R155 (D8, C5; log 10): scan chain 1 captures the DSCR, and under INTEST the same
Capture-DR then clears DSCR[8:6]. -/
def Obligations.Chain1Capture : Prop :=
  ∀ s i tms tdi rest, s.atCapture tms tdi rest →
    (s.connects i .extest 1 →
      exec i s = .next { s.afterCapture tms rest with ctl.s1 := s.dscr }) ∧
    (s.connects i .intest 1 →
      exec i s = .next { s.afterCapture tms rest with
        ctl.s1 := s.dscr, dbg.dscrBits := s.dbg.dscrBits &&& 0xFFFFFE3F })

/-- 41_scan_chains.md R156, R157 (D9; log 6, 19): under EXTEST an update of scan chain 1 writes the DSCR bits
of the mask, which holds bits 13 and 14 and none of 0, 1, 6, 7, 8, 29, 30; it is refused if it would
set DSCR[13] outside Debug state (U1) or clear it while an instruction is in flight (U4). -/
def Obligations.Chain1Update : Prop :=
  (∀ p : Params, tapWriteMask p &&& 0x600061C3 = 0x00006000) ∧
  ∀ s i tdi rest, s.connects i .extest 1 → s.entersUpdate tdi rest →
    (s.ctl.s1.getLsbD 13 = true → s.execEnabled = false → s.core.debugState = false →
      exec i s = .refused .u1ExecEnableSetOutsideDebug) ∧
    (s.ctl.s1.getLsbD 13 = false → s.execEnabled = true → s.dbg.instCompl = false →
      exec i s = .refused .u4ExecEnableClearedInFlight) ∧
    ((s.ctl.s1.getLsbD 13 = true → s.execEnabled = true ∨ s.core.debugState = true) →
      (s.ctl.s1.getLsbD 13 = false → s.execEnabled = false ∨ s.dbg.instCompl = true) →
      exec i s = .next { s.afterCycle true rest with
        dbg.dscrBits := (s.dbg.dscrBits &&& ~~~tapWriteMask s.cfg) |||
          (s.ctl.s1 &&& tapWriteMask s.cfg) })

/-- 41_scan_chains.md R158, R159: scan chain 4 captures InstCompl over 32 open bits under either
instruction and under ITRsel; an EXTEST or ITRsel update loads the ITR if `Ready` is set, and is
skipped if it is clear. -/
def Obligations.Chain4 : Prop :=
  ∀ s i tms tdi rest,
    (∀ insn, s.connects i insn 4 → s.atCapture tms tdi rest →
      exec i s = .next (State.usedDraws 1 { s.afterCapture tms rest with
        ctl.s4 := BitVec.ofBool s.dbg.instCompl ++ (s.drawAt 0).setWidth 32 })) ∧
    (s.connects i .extest 4 → s.entersUpdate tdi rest → s.ctl.ready = true →
      exec i s = .next { s.afterCycle true rest with dbg.itr := s.ctl.s4.extractLsb' 0 32 }) ∧
    (s.connects i .extest 4 → s.entersUpdate tdi rest → s.ctl.ready = false →
      exec i s = .next (s.afterCycle true rest))

/-- 41_scan_chains.md R161, R162: scan chain 5 captures the wDTR under either instruction, with InstCompl and
the instruction's flag, and loads nRetry and Valid; INTEST alone clears wDTRfull. -/
def Obligations.Chain5Capture : Prop :=
  ∀ s i tms tdi rest, s.atCapture tms tdi rest →
    (s.connects i .extest 5 →
      exec i s = .next { s.afterCapture tms rest with
        ctl.nRetry := s.dbg.rdtrEmpty, ctl.valid := s.dbg.wdtrFull
        ctl.s5 := BitVec.ofBool s.dbg.rdtrEmpty ++
          (BitVec.ofBool s.dbg.instCompl ++ s.dbg.wdtr) }) ∧
    (s.connects i .intest 5 →
      exec i s = .next { s.afterCapture tms rest with
        ctl.nRetry := s.dbg.rdtrEmpty, ctl.valid := s.dbg.wdtrFull
        ctl.s5 := BitVec.ofBool s.dbg.wdtrFull ++
          (BitVec.ofBool s.dbg.instCompl ++ s.dbg.wdtr)
        dbg.wdtrFull := false })

/-- 41_scan_chains.md R164: with DSCR[13] = 1 an EXTEST update of scan chain 5 loads the rDTR if `Ready` is
set, whatever nRetry is, and is skipped if `Ready` is clear. That DSCR[13] is read at the update is the model's
choice (D26; log 53). -/
def Obligations.Chain5UpdateInDebugUse : Prop :=
  ∀ s i tdi rest, s.connects i .extest 5 → s.entersUpdate tdi rest → s.execEnabled = true →
    (s.ctl.ready = true →
      exec i s = .next { s.afterCycle true rest with
        dbg.rdtr := s.ctl.s5.extractLsb' 0 32, dbg.rdtrEmpty := false }) ∧
    (s.ctl.ready = false → exec i s = .next (s.afterCycle true rest))

/-- 41_scan_chains.md R163 (D26; log 53): with DSCR[13] = 0, read at the update, an EXTEST update of scan chain 5
loads the rDTR if nRetry is set, whatever `Ready` is, and is skipped if nRetry is clear. -/
def Obligations.Chain5UpdateInDccUse : Prop :=
  ∀ s i tdi rest, s.connects i .extest 5 → s.entersUpdate tdi rest → s.execEnabled = false →
    (s.ctl.nRetry = true →
      exec i s = .next { s.afterCycle true rest with
        dbg.rdtr := s.ctl.s5.extractLsb' 0 32, dbg.rdtrEmpty := false }) ∧
    (s.ctl.nRetry = false → exec i s = .next (s.afterCycle true rest))

/-- 41_scan_chains.md R153, R156, R160, R165 (D24, D25; log 53): scan chain 0 is never written, and INTEST writes
none of scan chains 1, 4 and 5. -/
def Obligations.UpdatesThatWriteNothing : Prop :=
  ∀ s i tdi rest, s.entersUpdate tdi rest →
    (s.connects i .extest 0 ∨ s.connects i .intest 0 ∨ s.connects i .intest 1 ∨
      s.connects i .intest 4 ∨ s.connects i .intest 5) →
    exec i s = .next (s.afterCycle true rest)

/-- 41_scan_chains.md R172 (D19; log 40): scan chain 6 acts on the ETM under INTEST alone, and no access of it
changes more than its shift section, `Ready` and the ETM. -/
def Obligations.Chain6 : Prop :=
  ∀ s i tms tdi rest,
    (s.connects i .intest 6 → s.atCapture tms tdi rest →
      exec i s = .next { s.afterCapture tms rest with
        ctl.s6 := Config.etmCapture s.etm, etm := Config.etmAfterCapture s.etm }) ∧
    (s.connects i .intest 6 → s.entersUpdate tdi rest →
      exec i s = .next { s.afterCycle true rest with
        etm := Config.etmAccess s.etm (s.ctl.s6.getLsbD 39) (s.ctl.s6.extractLsb' 32 7)
          (s.ctl.s6.extractLsb' 0 32) }) ∧
    (s.connects i .extest 6 → s.atCapture tms tdi rest →
      exec i s = .next (State.usedDraws 1 { s.afterCapture tms rest with
        ctl.s6 := s.drawAt 0 })) ∧
    (s.connects i .extest 6 → s.entersUpdate tdi rest →
      exec i s = .next (s.afterCycle true rest))

/-- 41_scan_chains.md R173 (D18; log 13): scan chain 7 captures ReqCompl; with no request pending a finished
read's result is captured once, under open address bits; with a request pending only bit 0 is loaded. -/
def Obligations.Chain7Capture : Prop :=
  ∀ s i insn tms tdi rest, s.connects i insn 7 → s.atCapture tms tdi rest →
    (∀ v, s.dbg.req = none → s.dbg.rdData = some v →
      exec i s = .next (State.usedDraws 1 { s.afterCapture tms rest with
        ctl.s7 := ((s.drawAt 0).setWidth 7 ++ v) ++ 1#1
        ctl.reqReady := true, dbg.rdData := none })) ∧
    (s.dbg.req = none → s.dbg.rdData = none →
      exec i s = .next (State.usedDraws 2 { s.afterCapture tms rest with
        ctl.s7 := ((s.drawAt 0).setWidth 7 ++ (s.drawAt 1).setWidth 32) ++ 1#1
        ctl.reqReady := true })) ∧
    (∀ r, s.dbg.req = some r →
      exec i s = .next { s.afterCapture tms rest with
        ctl.s7 := s.ctl.s7.extractLsb' 1 39 ++ 0#1, ctl.reqReady := false })

/-- 41_scan_chains.md R174: while the last capture of scan chain 7 read Ready/nRW = 0 the chain is frozen and
shows 0; otherwise it shifts. -/
def Obligations.Chain7Shift : Prop :=
  ∀ s i insn tms tdi rest, s.connects i insn 7 → s.atShift tms tdi rest →
    (s.ctl.reqReady = false → exec i s = .next (s.afterShift tms rest false)) ∧
    (s.ctl.reqReady = true →
      exec i s = .next { s.afterShift tms rest (s.ctl.s7.getLsbD 0) with
        ctl.s7 := BitVec.ofBool tdi ++ s.ctl.s7.extractLsb' 1 39 })

/-- 00_scope.md R8, 30_encoding.md R108 to R112: Shift-DR shows bit 0 of the connected chain and shifts DBGTDI in
at the top, for scan chains 0, 1, 4, 5 and 6. -/
def Obligations.ChainShift : Prop :=
  ∀ s i insn tms tdi rest, s.atShift tms tdi rest →
    (s.connects i insn 0 →
      exec i s = .next { s.afterShift tms rest (s.ctl.s0.getLsbD 0) with
        ctl.s0 := BitVec.ofBool tdi ++ s.ctl.s0.extractLsb' 1 39 }) ∧
    (s.connects i insn 1 →
      exec i s = .next { s.afterShift tms rest (s.ctl.s1.getLsbD 0) with
        ctl.s1 := BitVec.ofBool tdi ++ s.ctl.s1.extractLsb' 1 31 }) ∧
    (s.connects i insn 4 →
      exec i s = .next { s.afterShift tms rest (s.ctl.s4.getLsbD 0) with
        ctl.s4 := BitVec.ofBool tdi ++ s.ctl.s4.extractLsb' 1 32 }) ∧
    (s.connects i insn 5 →
      exec i s = .next { s.afterShift tms rest (s.ctl.s5.getLsbD 0) with
        ctl.s5 := BitVec.ofBool tdi ++ s.ctl.s5.extractLsb' 1 33 }) ∧
    (s.connects i insn 6 →
      exec i s = .next { s.afterShift tms rest (s.ctl.s6.getLsbD 0) with
        ctl.s6 := BitVec.ofBool tdi ++ s.ctl.s6.extractLsb' 1 39 })

/-- 30_encoding.md R109, R116 and 10_state.md R22: a scan of scan chain 1, under EXTEST or INTEST, that presents the
32 bits of `v`, lowest first, the last with tms = 1, leaves exactly `v` in the chain and nothing else changed; and
the cycle numbered k, from 0 to 31, shows bit k of what stood there. -/
def Obligations.ScanDelivers : Prop :=
  ∀ (s : State) (v : Word) rest, s.pins.trst = false → s.ctl.tap = .shiftDr →
    (s.ctl.ir = 0b00000 ∨ s.ctl.ir = 0b01100) → s.ctl.screg = 1 →
    s.env.inputs =
      (List.range 32).map (fun k => Input.tck (decide (k = 31)) (v.getLsbD k)) ++ rest →
    Host.Core.run Sys2Proof.core 32 s = .next { s with
      env.inputs := rest, ctl.tap := .exit1Dr, ctl.s1 := v, ctl.tdo := some (s.ctl.s1.getLsbD 31) } ∧
    ∀ k, k < 32 → ∃ t, Host.Core.run Sys2Proof.core (k + 1) s = .next t ∧
      t.ctl.tdo = some (s.ctl.s1.getLsbD k)

/-- 41_scan_chains.md R183, R184, R185 (D12; log 14): a DR scan of scan chains 2 and 3, 8 to 15, and 16 to 31
(rows CHAIN2_3_UNDESCRIBED, CHAIN8_15_RESERVED, CHAIN16_31_UNASSIGNED) is refused from its Capture-DR;
entry to Run-Test/Idle with one of them selected issues nothing and goes on. -/
def Obligations.UndescribedChains : Prop :=
  ∀ s i insn c tms tdi rest, s.connects i insn c →
    (s.atCapture tms tdi rest → c = 2 ∨ c = 3 → exec i s = .refused .u10UndescribedChain) ∧
    (s.atCapture tms tdi rest → 8 ≤ c.toNat → c.toNat ≤ 15 →
      exec i s = .refused .u11ReservedChain) ∧
    (s.atCapture tms tdi rest → 16 ≤ c.toNat → exec i s = .refused .u12UnassignedChain) ∧
    (s.entersIdle tdi rest → c = 2 ∨ c = 3 ∨ 8 ≤ c.toNat →
      exec i s = .next (s.afterCycle false rest))

/-! ### Issue of instructions -/

/-- 42_debug_execution.md R191: entry to Run-Test/Idle with scan chain 4 or 5 selected, under EXTEST, INTEST or
ITRsel and with every condition of R190 met, issues the ITR: the word is in flight, InstCompl is
cleared, and the ITR keeps its value. -/
def Obligations.Issue : Prop :=
  ∀ s i insn tdi rest, (s.connects i insn 4 ∨ s.connects i insn 5) → s.entersIdle tdi rest →
    s.core.debugState = true → s.execEnabled = true → s.ctl.ready = true →
    s.stickyPreciseAbort = false → s.dbg.instCompl = true →
    exec i s = .next { s.afterCycle false rest with
      core.inFlight := some s.dbg.itr, dbg.instCompl := false }

/-- 42_debug_execution.md R190, R193, R197, R210 (D27, D29; log 16, 53): entry to Run-Test/Idle issues nothing and
changes nothing if a condition fails, a set DSCR[6] among them, or if scan chain 0, 1, 6 or 7 is
selected; with every condition met and an instruction still in flight it is refused (U14). -/
def Obligations.NoIssue : Prop :=
  ∀ s i insn tdi rest, s.entersIdle tdi rest →
    ((s.connects i insn 4 ∨ s.connects i insn 5) →
      (s.core.debugState = false ∨ s.execEnabled = false ∨ s.ctl.ready = false ∨
        s.stickyPreciseAbort = true) →
      exec i s = .next (s.afterCycle false rest)) ∧
    ((s.connects i insn 4 ∨ s.connects i insn 5) →
      s.core.debugState = true → s.execEnabled = true → s.ctl.ready = true →
      s.stickyPreciseAbort = false → s.dbg.instCompl = false →
      exec i s = .refused .u14StaleReady) ∧
    ((s.connects i insn 0 ∨ s.connects i insn 1 ∨ s.connects i insn 6 ∨ s.connects i insn 7) →
      exec i s = .next (s.afterCycle false rest))

/-! ### Scan chain 7 requests -/

/-- 41_scan_chains.md R175, 30_encoding.md R114: Update-DR of scan chain 7, under EXTEST and INTEST alike, does
nothing if the captured Ready/nRW was 0 or the address is 0, is refused (U6) for a reserved address, and places
the request otherwise, whatever DSCR[13], DSCR[6] and the core's state are. That 9 to 18, which Table 14-2 leaves
without a row, are reserved too is the model's choice (R179, N11; log 20). -/
def Obligations.Chain7Update : Prop :=
  ∀ s i insn (a : BitVec 7) (d : Word) w tdi rest, s.connects i insn 7 → s.entersUpdate tdi rest →
    s.ctl.s7 = (a ++ d) ++ BitVec.ofBool w →
    (s.ctl.reqReady = false → exec i s = .next (s.afterCycle true rest)) ∧
    (s.ctl.reqReady = true → a = 0 → exec i s = .next (s.afterCycle true rest)) ∧
    (s.ctl.reqReady = true →
      a.toNat ∈ [7, 8, 64, 65, 66, 67, 68, 69, 80, 81, 82, 83, 84, 85, 96, 97, 112, 113] →
      exec i s = .next { s.afterCycle true rest with
        dbg.req := some { address := a, data := d, write := w }
        dbg.rdData := none }) ∧
    (s.ctl.reqReady = true → a ≠ 0 →
      a.toNat ∉ [7, 8, 64, 65, 66, 67, 68, 69, 80, 81, 82, 83, 84, 85, 96, 97, 112, 113] →
      exec i s = .refused .u6ReservedRequest)

/-- 41_scan_chains.md R175 (rows VCR to WCR1): the cycle that enters Update-DR with a register's request in scan
chain 7 places the request if the captured Ready/nRW was 1, and does nothing if it was 0. -/
def Obligations.RegisterRequestsPlaced : Prop :=
  ∀ p ∈ ([(7, Instr.vcr), (8, Instr.pc), (64, Instr.bvr0), (65, Instr.bvr1), (66, Instr.bvr2),
      (67, Instr.bvr3), (68, Instr.bvr4), (69, Instr.bvr5), (80, Instr.bcr0), (81, Instr.bcr1),
      (82, Instr.bcr2), (83, Instr.bcr3), (84, Instr.bcr4), (85, Instr.bcr5), (96, Instr.wvr0),
      (97, Instr.wvr1), (112, Instr.wcr0), (113, Instr.wcr1)] :
      List (BitVec 7 × (Word → Bool → Instr))),
  ∀ s d w tdi rest, s.entersUpdate tdi rest →
    (s.ctl.reqReady = true →
      exec (p.2 d w) s = .next { s.afterCycle true rest with
        dbg.req := some { address := p.1, data := d, write := w }, dbg.rdData := none }) ∧
    (s.ctl.reqReady = false → exec (p.2 d w) s = .next (s.afterCycle true rest))

/-- 41_scan_chains.md R178: a request to the NULL register generates no request, whatever its data and
read/write bit are and whether or not the captured Ready/nRW was 1. -/
def Obligations.NullRequest : Prop :=
  ∀ s d w tdi rest, s.entersUpdate tdi rest →
    exec (.null d w) s = .next (s.afterCycle true rest)

/-- 41_scan_chains.md R179 (N11; log 20): the rows of the reserved addresses are refused (U6) when the request
would be placed, reads and writes alike; a frozen scan's input is ignored and the machine goes on. -/
def Obligations.ReservedRequests : Prop :=
  ∀ k ∈ [Instr.reserved1To6, Instr.norow9To18, Instr.reserved19To63, Instr.reserved70To79,
      Instr.reserved86To95, Instr.reserved98To111, Instr.reserved114To127],
  ∀ s a d w tdi rest, s.entersUpdate tdi rest →
    (s.ctl.reqReady = true → exec (k a d w) s = .refused .u6ReservedRequest) ∧
    (s.ctl.reqReady = false → exec (k a d w) s = .next (s.afterCycle true rest))

/-- 41_scan_chains.md R176: the request engine ends a pending read by handing over the register's contents at that
step and clearing the request; nothing else changes. -/
def Obligations.ReadRequestCompletes : Prop :=
  ∀ p ∈ ([(7, Instr.vcr, fun s => s.dbg.vcr), (8, Instr.pc, State.pcSample),
      (64, Instr.bvr0, fun s => s.dbg.bvr[0]), (65, Instr.bvr1, fun s => s.dbg.bvr[1]),
      (66, Instr.bvr2, fun s => s.dbg.bvr[2]), (67, Instr.bvr3, fun s => s.dbg.bvr[3]),
      (68, Instr.bvr4, fun s => s.dbg.bvr[4]), (69, Instr.bvr5, fun s => s.dbg.bvr[5]),
      (80, Instr.bcr0, fun s => s.dbg.bcr[0]), (81, Instr.bcr1, fun s => s.dbg.bcr[1]),
      (82, Instr.bcr2, fun s => s.dbg.bcr[2]), (83, Instr.bcr3, fun s => s.dbg.bcr[3]),
      (84, Instr.bcr4, fun s => s.dbg.bcr[4]), (85, Instr.bcr5, fun s => s.dbg.bcr[5]),
      (96, Instr.wvr0, fun s => s.dbg.wvr[0]), (97, Instr.wvr1, fun s => s.dbg.wvr[1]),
      (112, Instr.wcr0, fun s => s.dbg.wcr[0]), (113, Instr.wcr1, fun s => s.dbg.wcr[1])] :
      List (BitVec 7 × (Word → Bool → Instr) × (State → Word))),
  ∀ s d rest, s.env.inputs = .engine :: rest →
    s.dbg.req = some { address := p.1, data := d, write := false } →
    step s = exec (p.2.1 d false) s ∧
    exec (p.2.1 d false) s = .next { s.afterInput rest with
      dbg.rdData := some (p.2.2 s), dbg.req := none }

/-- 41_scan_chains.md R177: the request engine ends a pending write by putting all 32 data bits in the register
and clearing the request; a write of the PC changes no register; nothing else changes. -/
def Obligations.WriteRequestCompletes : Prop :=
  ∀ p ∈ ([(7, Instr.vcr, fun d u => { u with vcr := d }), (8, Instr.pc, fun _ u => u),
      (64, Instr.bvr0, fun d u => { u with bvr := u.bvr.set 0 d }),
      (65, Instr.bvr1, fun d u => { u with bvr := u.bvr.set 1 d }),
      (66, Instr.bvr2, fun d u => { u with bvr := u.bvr.set 2 d }),
      (67, Instr.bvr3, fun d u => { u with bvr := u.bvr.set 3 d }),
      (68, Instr.bvr4, fun d u => { u with bvr := u.bvr.set 4 d }),
      (69, Instr.bvr5, fun d u => { u with bvr := u.bvr.set 5 d }),
      (80, Instr.bcr0, fun d u => { u with bcr := u.bcr.set 0 d }),
      (81, Instr.bcr1, fun d u => { u with bcr := u.bcr.set 1 d }),
      (82, Instr.bcr2, fun d u => { u with bcr := u.bcr.set 2 d }),
      (83, Instr.bcr3, fun d u => { u with bcr := u.bcr.set 3 d }),
      (84, Instr.bcr4, fun d u => { u with bcr := u.bcr.set 4 d }),
      (85, Instr.bcr5, fun d u => { u with bcr := u.bcr.set 5 d }),
      (96, Instr.wvr0, fun d u => { u with wvr := u.wvr.set 0 d }),
      (97, Instr.wvr1, fun d u => { u with wvr := u.wvr.set 1 d }),
      (112, Instr.wcr0, fun d u => { u with wcr := u.wcr.set 0 d }),
      (113, Instr.wcr1, fun d u => { u with wcr := u.wcr.set 1 d })] :
      List (BitVec 7 × (Word → Bool → Instr) × (Word → DebugUnit → DebugUnit))),
  ∀ s d rest, s.env.inputs = .engine :: rest →
    s.dbg.req = some { address := p.1, data := d, write := true } →
    step s = exec (p.2.1 d true) s ∧
    exec (p.2.1 d true) s = .next { s.afterInput rest with
      dbg := { p.2.2 d s.dbg with rdData := none, req := none } }

/-- 41_scan_chains.md R180, R181: a PC sample is all ones in Debug state or where
non-invasive debug is not permitted, and otherwise the committed address as the row of the
processor state the committed instruction ran in offsets and marks it, whatever the CPSR names since (log 41). Whether it is permitted is looked up, at the sample, from the pins and the core's
state as they are then (00_scope.md R6; log 51). -/
def Obligations.PcSample : Prop :=
  ∀ s : State,
    (s.core.debugState = true ∨
      (s.cfg.nonInvasivePermitted.get (BitVec.ofBool s.pins.dbgen ++ (BitVec.ofBool s.pins.spiden ++
        (BitVec.ofBool s.core.regs.suiden ++ BitVec.ofBool s.core.regs.nonSecure))).toFin).getLsbD
          (s.core.regs.cpsr.extractLsb' 0 5).toNat = false →
      s.pcSample = 0xFFFFFFFF) ∧
    (s.core.debugState = false → s.nonInvasivePermitted = true →
      (s.core.regs.committedIsa = .arm →
        s.pcSample = (s.core.regs.committed + 8).extractLsb' 2 30 ++ 0b00#2) ∧
      (s.core.regs.committedIsa = .thumb →
        s.pcSample = (s.core.regs.committed + 4).extractLsb' 1 31 ++ 1#1) ∧
      (s.core.regs.committedIsa = .jazelle →
        s.pcSample = s.core.regs.committed.extractLsb' 2 30 ++ 0b10#2))

/-- 41_scan_chains.md R175, R177, R182: a write request that stands in scan chain 7 at Update-DR is in its register
one request engine step later, whether or not the core is in Debug state; the scan and the write
change nothing else. -/
def Obligations.WriteRequestReachesRegister : Prop :=
  ∀ (s : State) insn (d : Word) tdi rest, s.entersUpdate tdi (.engine :: rest) → s.ctl.reqReady = true →
    (s.connects .extest insn 7 ∨ s.connects .intest insn 7) →
    (s.ctl.s7 = ((7 : BitVec 7) ++ d) ++ 1#1 →
      Host.Core.run Sys2Proof.core 2 s = .next { s.afterCycle true rest with
        dbg.vcr := d, dbg.req := none, dbg.rdData := none }) ∧
    (∀ y : Fin 6, s.ctl.s7 = (BitVec.ofNat 7 (64 + y) ++ d) ++ 1#1 →
      Host.Core.run Sys2Proof.core 2 s = .next { s.afterCycle true rest with
        dbg.bvr := s.dbg.bvr.set y d, dbg.req := none, dbg.rdData := none }) ∧
    (∀ y : Fin 6, s.ctl.s7 = (BitVec.ofNat 7 (80 + y) ++ d) ++ 1#1 →
      Host.Core.run Sys2Proof.core 2 s = .next { s.afterCycle true rest with
        dbg.bcr := s.dbg.bcr.set y d, dbg.req := none, dbg.rdData := none }) ∧
    (∀ y : Fin 2, s.ctl.s7 = (BitVec.ofNat 7 (96 + y) ++ d) ++ 1#1 →
      Host.Core.run Sys2Proof.core 2 s = .next { s.afterCycle true rest with
        dbg.wvr := s.dbg.wvr.set y d, dbg.req := none, dbg.rdData := none }) ∧
    (∀ y : Fin 2, s.ctl.s7 = (BitVec.ofNat 7 (112 + y) ++ d) ++ 1#1 →
      Host.Core.run Sys2Proof.core 2 s = .next { s.afterCycle true rest with
        dbg.wcr := s.dbg.wcr.set y d, dbg.req := none, dbg.rdData := none })

/-! ### Entry to Debug state, return, and what issued instructions do -/

/-- 60_exceptions.md R274, R273, R285: the halt step of the core enters Debug state if a Halt request is pending and the
core's state permits debug: DSCR[0] reads 1, the request is gone, and nothing else changes but the model's own note
of the processor state that the T and J bits of the CPSR name at entry (log 30, 37); otherwise the step changes
nothing, so that a request stays pending while debug is not permitted (the model's choice, N7, log 22, 50). Whether
it is permitted is looked up at the step from the pins and the core's state as they are then (00_scope.md R6; log 51). -/
def Obligations.HaltStepEntersDebugState : Prop :=
  ∀ s rest, s.env.inputs = .coreHalt :: rest →
    (s.core.haltReq = true → s.core.debugState = false → s.debugPermitted = true →
      ∃ t, step s = .next t ∧ t.dscr.getLsbD 0 = true ∧
        t = { s.afterInput rest with
          core.debugState := true, core.haltReq := false
          core.entryIsa :=
            if s.core.regs.cpsr.getLsbD 24 then (if s.core.regs.cpsr.getLsbD 5 then .other else .jazelle)
            else (if s.core.regs.cpsr.getLsbD 5 then .thumb else .arm) }) ∧
    (s.core.haltReq = false ∨ s.core.debugState = true ∨
      (s.cfg.debugPermitted.get (BitVec.ofBool s.pins.dbgen ++ (BitVec.ofBool s.pins.spiden ++
        (BitVec.ofBool s.core.regs.suiden ++ BitVec.ofBool s.core.regs.nonSecure))).toFin).getLsbD
          (s.core.regs.cpsr.extractLsb' 0 5).toNat = false →
      step s = .next (s.afterInput rest))

/-- 60_exceptions.md R272 (log 23): an asserted EDBGRQ makes a Halt request while DBGEN is asserted and the core
is not in Debug state, whichever of the two pins comes last; deasserting it makes none. -/
def Obligations.EdbgrqRequestsHalt : Prop :=
  ∀ s b rest,
    (s.env.inputs = .edbgrq b :: rest →
      step s = .next { s.afterInput rest with
        pins.edbgrq := b
        core.haltReq := s.core.haltReq || (b && s.pins.dbgen && !s.core.debugState) }) ∧
    (s.env.inputs = .dbgen b :: rest →
      step s = .next { s.afterInput rest with
        pins.dbgen := b
        core.haltReq := s.core.haltReq || (s.pins.edbgrq && b && !s.core.debugState) })

/-- 60_exceptions.md R283 (with R272): the restart step of the core leaves Debug state and sets DSCR[1], restoring
nothing else, and is refused with DSCR[13] = 1 (U2); with no Restart request it changes nothing. An
EDBGRQ still asserted is a Halt request again. `drained` is the model's own: the write buffer no longer counts as
drained (log 38). -/
def Obligations.RestartStep : Prop :=
  ∀ s rest, s.env.inputs = .coreRestart :: rest →
    (s.core.restartReq = true → s.execEnabled = false →
      step s = .next { s.afterInput rest with
        core.debugState := false, core.restartReq := false, dbg.coreRestarted := true
        core.haltReq := s.core.haltReq || (s.pins.edbgrq && s.pins.dbgen)
        core.drained := false }) ∧
    (s.core.restartReq = true → s.execEnabled = true →
      step s = .refused .u2RestartWithExecEnable) ∧
    (s.core.restartReq = false → step s = .next (s.afterInput rest))

/-- 60_exceptions.md R271, R279, R282 (D14, D16, D32; log 24, 25, 26): a software debug event halts the core with
DSCR[14] = 1 where debug is permitted, takes the open Monitor debug-mode exception with
DSCR[15:14] = b10, does nothing in Debug state, and is refused otherwise. -/
def Obligations.SoftwareDebugEvents : Prop :=
  ∀ s kind rest, s.env.inputs = .softwareDebugEvent kind :: rest →
    (s.core.debugState = true → step s = .next (s.afterInput rest)) ∧
    (s.core.debugState = false → s.dbg.dscrBits.getLsbD 14 = true →
      s.debugPermitted = true →
      step s = .next { s.afterInput rest with
        core.debugState := true, core.haltReq := false
        core.entryIsa := isaOf s.core.regs.cpsr }) ∧
    (s.core.debugState = false → s.dbg.dscrBits.getLsbD 15 = true →
      s.dbg.dscrBits.getLsbD 14 = false →
      step s = .next { s.afterInput rest with
        core.regs := (Config.monitorException kind s.core.regs).regs
        core.mem := s.core.mem.writeAll (Config.monitorException kind s.core.regs).stores }) ∧
    (s.core.debugState = false → s.dbg.dscrBits.getLsbD 14 = true →
      s.debugPermitted = false → step s = .refused .debugEventUndescribed) ∧
    (s.core.debugState = false → s.dbg.dscrBits.getLsbD 15 = false →
      s.dbg.dscrBits.getLsbD 14 = false → step s = .refused .debugEventUndescribed)

/-- 42_debug_execution.md R199, R200, R206 (encodings log 31; log 17, 35): `MCR p14,0,Rd,c0,c5,0` puts Rd in the
wDTR and sets wDTRfull; `MRC p14,0,Rd,c0,c5,0` puts the rDTR in Rd and sets rDTRempty, and with R15
changes the CPSR flags alone. The instruction completes and nothing else changes. -/
def Obligations.DtrTransfers : Prop :=
  ∀ s (rd : BitVec 4) abort rest,
    (∀ v, s.completing (0xEE00#16 ++ (rd ++ 0xE15#12)) abort rest → rd ≠ 15 →
      s.core.regs.readGpr rd = some v →
      step s = .next { s.afterCompletion rest with dbg.wdtr := v, dbg.wdtrFull := true }) ∧
    (∀ c, s.completing (0xEE10#16 ++ (rd ++ 0xE15#12)) abort rest → rd ≠ 15 →
      s.core.regs.writeGpr rd s.dbg.rdtr = some c →
      step s = .next { s.afterCompletion rest with core.regs := c, dbg.rdtrEmpty := true }) ∧
    (s.completing 0xEE10FE15 abort rest →
      ∃ f : BitVec 4, step s = .next { s.afterCompletion rest with
        core.regs.cpsr := f ++ s.core.regs.cpsr.extractLsb' 0 28, dbg.rdtrEmpty := true })

/-- 60_exceptions.md R275, R278, 42_debug_execution.md R192, R206 (encoding log 31; log 32, 38, 47, 54): `MCR p14,0,R15,c0,c5,0` in
Debug state sets DSCR[8] and does nothing else; the instruction completes. A word to which the source gives no
effect ends as `Config.coreExec` answers: a precise abort sets DSCR[6] alone, and that with DSCR[13] = 1 (R276), an Undefined exception DSCR[8] alone, and
one that is done has the registers, CP14's among them (10_state.md R51; log 54), the stores and the DTR accesses answered. `drained` is the model's own. -/
def Obligations.UndefinedSetsStickyFlag : Prop :=
  ∀ s abort rest, s.core.debugState = true →
    (s.completing 0xEE00FE15 abort rest →
      step s = .next { s.afterCompletion rest with dbg.dscrBits := s.dbg.dscrBits ||| 0x100 }) ∧
    (∀ w, s.completing w abort rest → decodeArm w = .other → w ≠ s.cfg.nopWord →
      step s = .next
        (let a := Config.coreExec (State.coreQuery w abort s)
        match a.outcome with
        | .preciseAbort => { s.afterCompletion rest with
            dbg.dscrBits :=
              if s.execEnabled then s.dbg.dscrBits ||| 0x40 else s.dbg.dscrBits
            core.drained := false }
        | .undefined => { s.afterCompletion rest with
            dbg.dscrBits := s.dbg.dscrBits ||| 0x100, core.drained := false }
        | .done => { s.afterCompletion rest with
            core.regs := a.effect.regs, core.mem := s.core.mem.writeAll a.effect.stores
            dbg.vcr := a.vcr, dbg.bvr := a.bvr, dbg.bcr := a.bcr, dbg.wvr := a.wvr, dbg.wcr := a.wcr
            core.drained := false, dbg.rdtrEmpty := s.dbg.rdtrEmpty || a.rdtrRead
            dbg.wdtr := a.wdtrWrite.getD s.dbg.wdtr
            dbg.wdtrFull := s.dbg.wdtrFull || a.wdtrWrite.isSome }))

/-- 42_debug_execution.md R199, R200, R206, R208 (encodings log 31, a full wDTR and an empty rDTR log 17, byte order log 33):
`LDC p14,c5,[R0],#4` loads the word at R0 into the wDTR and sets wDTRfull, and `STC p14,c5,[R0],#4` stores the rDTR
at R0 and sets rDTRempty; R0 moves on by 4. The load leaves all memory alone; the store leaves every byte alone but the
four it stores to, and loading them gives the word back. R0 is word-aligned: a misaligned one is `Config.coreExec`'s
(log 32). `drained` is the model's own. -/
def Obligations.WordTransfers : Prop :=
  ∀ s rest, s.core.regs.r0 &&& 3 = 0 →
    (s.completing 0xECB05E01 false rest →
      step s = .next { s.afterCompletion rest with
        dbg.wdtr := s.core.mem.loadWord s.core.regs.bigEndian s.core.regs.r0
        dbg.wdtrFull := true, core.drained := false
        core.regs := s.core.regs.setR0 (s.core.regs.r0 + 4) }) ∧
    (∀ v : Word, s.completing 0xECB05E01 false rest →
      (∀ k : Fin 4, Memory.read s.core.mem (s.core.regs.r0.toNat + k) =
        some (v.extractLsb' (if s.core.regs.bigEndian then 24 - 8 * k else 8 * k) 8)) →
      step s = .next { s.afterCompletion rest with
        dbg.wdtr := v, dbg.wdtrFull := true, core.drained := false
        core.regs := s.core.regs.setR0 (s.core.regs.r0 + 4) }) ∧
    (s.completing 0xECA05E01 false rest →
      ∃ m : Memory, step s = .next { s.afterCompletion rest with
          core.mem := m, dbg.rdtrEmpty := true, core.drained := false
          core.regs := s.core.regs.setR0 (s.core.regs.r0 + 4) } ∧
        (∀ k : Fin 4, Memory.read m (s.core.regs.r0.toNat + k) =
          some (s.dbg.rdtr.extractLsb' (if s.core.regs.bigEndian then 24 - 8 * k else 8 * k) 8)) ∧
        m.loadWord s.core.regs.bigEndian s.core.regs.r0 = s.dbg.rdtr ∧
        (∀ a, a < s.core.regs.r0.toNat ∨ s.core.regs.r0.toNat + 4 ≤ a →
          Memory.read m a = Memory.read s.core.mem a))

/-- 60_exceptions.md R275, R276 (log 32, 47): an aligned access of LDC, STC, LDRH, LDRB, STRH or STRB that ends in a
precise Data Abort, in Debug state with DSCR[13] = 1, sets DSCR[6] and does nothing else: R0 stays and
memory stays; the instruction completes. That CP15's fault registers stay is the model's choice (log 47). `drained` is the model's own: an imprecise abort caused by the access may
still arise (42_debug_execution.md R192; log 38). -/
def Obligations.PreciseAbortSetsStickyFlag : Prop :=
  ∀ s w rest, s.completing w true rest → s.core.debugState = true → s.execEnabled = true →
    (w ∈ [(0xECB05E01 : Word), 0xECA05E01] ∧ s.core.regs.r0 &&& 3 = 0 ∨
      w ∈ [(0xE0D010B2 : Word), 0xE0C010B2] ∧ s.core.regs.r0 &&& 1 = 0 ∨
      w ∈ [(0xE4D01001 : Word), 0xE4C01001]) →
    step s = .next { s.afterCompletion rest with
      dbg.dscrBits := s.dbg.dscrBits ||| 0x40, core.drained := false }

/-- 42_debug_execution.md R206 (encodings log 31, zero extension and the low bits of R1 log 34, byte order log 33): `LDRH R1,[R0],#2` and
`LDRB R1,[R0],#1` load into R1, `STRH R1,[R0],#2` and `STRB R1,[R0],#1` store from R1, and R0 is
post-incremented. The stores leave every byte alone but those they store to, and loading those gives the data back. -/
def Obligations.HalfwordAndByteTransfers : Prop :=
  ∀ s rest,
    (s.completing 0xE0D010B2 false rest → s.core.regs.r0 &&& 1 = 0 →
      step s = .next { s.afterCompletion rest with
        core.drained := false
        core.regs := (s.core.regs.setR1
          (0#16 ++ s.core.mem.loadHalf s.core.regs.bigEndian s.core.regs.r0)).setR0
          (s.core.regs.r0 + 2) }) ∧
    (∀ v : BitVec 16, s.completing 0xE0D010B2 false rest → s.core.regs.r0 &&& 1 = 0 →
      (∀ k : Fin 2, Memory.read s.core.mem (s.core.regs.r0.toNat + k) =
        some (v.extractLsb' (if s.core.regs.bigEndian then 8 - 8 * k else 8 * k) 8)) →
      step s = .next { s.afterCompletion rest with
        core.drained := false
        core.regs := (s.core.regs.setR1 (0#16 ++ v)).setR0 (s.core.regs.r0 + 2) }) ∧
    (s.completing 0xE4D01001 false rest →
      step s = .next { s.afterCompletion rest with
        core.drained := false
        core.regs := (s.core.regs.setR1 (0#24 ++ s.core.mem.loadByte s.core.regs.r0)).setR0
          (s.core.regs.r0 + 1) }) ∧
    (∀ v : Byte, s.completing 0xE4D01001 false rest →
      Memory.read s.core.mem s.core.regs.r0.toNat = some v →
      step s = .next { s.afterCompletion rest with
        core.drained := false
        core.regs := (s.core.regs.setR1 (0#24 ++ v)).setR0 (s.core.regs.r0 + 1) }) ∧
    (s.completing 0xE0C010B2 false rest → s.core.regs.r0 &&& 1 = 0 →
      ∃ m : Memory, step s = .next { s.afterCompletion rest with
          core.mem := m, core.drained := false
          core.regs := s.core.regs.setR0 (s.core.regs.r0 + 2) } ∧
        (∀ k : Fin 2, Memory.read m (s.core.regs.r0.toNat + k) =
          some (s.core.regs.r1.extractLsb' (if s.core.regs.bigEndian then 8 - 8 * k else 8 * k) 8)) ∧
        m.loadHalf s.core.regs.bigEndian s.core.regs.r0 = s.core.regs.r1.extractLsb' 0 16 ∧
        (∀ a, a < s.core.regs.r0.toNat ∨ s.core.regs.r0.toNat + 2 ≤ a →
          Memory.read m a = Memory.read s.core.mem a)) ∧
    (s.completing 0xE4C01001 false rest →
      ∃ m : Memory, step s = .next { s.afterCompletion rest with
          core.mem := m, core.drained := false
          core.regs := s.core.regs.setR0 (s.core.regs.r0 + 1) } ∧
        Memory.read m s.core.regs.r0.toNat = some (s.core.regs.r1.extractLsb' 0 8) ∧
        m.loadByte s.core.regs.r0 = s.core.regs.r1.extractLsb' 0 8 ∧
        (∀ a, a ≠ s.core.regs.r0.toNat → Memory.read m a = Memory.read s.core.mem a))

/-- 42_debug_execution.md R194, R198, R202, R206 and 10_state.md R52 (encodings log 31, banks log 30, log 32, 36, 37, 54): the
moves between R0 and the CPSR, the SPSR, the PC and a coprocessor register, and the read of the DSCR into Rd. The
CPSR is written from every privileged mode, and from User mode in the Non-secure world or with SPIDEN asserted, with
a value that keeps the mode or names one permitted (which are, is a table of the parameters: log 36). A coprocessor
read changes R0 and the coprocessors, a write the coprocessors alone (the core's coprocessor registers, security
state, SUIDEN and byte order, and CP14's registers but the DSCR), unless the word is Undefined. Of all
the words named the PC changes only by `MOV PC,R0`, whatever operands or modes they meet. -/
def Obligations.StatusAndPcMoves : Prop :=
  ∀ s abort rest,
    (s.completing 0xE10F0000 abort rest →
      step s = .next { s.afterCompletion rest with
        core.regs := s.core.regs.setR0 s.core.regs.cpsr }) ∧
    (∀ k, s.completing 0xE14F0000 abort rest → spsrIndex (cpsrMode s.core.regs.cpsr) = some k →
      step s = .next { s.afterCompletion rest with
        core.regs := s.core.regs.setR0 s.core.regs.spsr[k] }) ∧
    ((s.core.regs.nonSecure = true ∨ s.pins.spiden = true ∨ s.core.regs.cpsr.extractLsb' 0 5 ≠ 0x10#5) →
      (s.core.regs.r0.extractLsb' 0 5 = s.core.regs.cpsr.extractLsb' 0 5 ∨
        (s.cfg.modePermitted.get (BitVec.ofBool s.pins.dbgen ++ (BitVec.ofBool s.pins.spiden ++
          (BitVec.ofBool s.core.regs.suiden ++ BitVec.ofBool s.core.regs.nonSecure))).toFin).getLsbD
            (s.core.regs.r0.extractLsb' 0 5).toNat = true) →
      (s.completing 0xE12FF000 abort rest →
        step s = .next { s.afterCompletion rest with core.regs.cpsr := s.core.regs.r0 }) ∧
      (s.completing 0xE129F000 abort rest →
        step s = .next { s.afterCompletion rest with
          core.regs.cpsr := (s.core.regs.cpsr &&& 0x00FFFF00) ||| (s.core.regs.r0 &&& 0xFF0000FF) })) ∧
    (∀ k, s.completing 0xE16FF000 abort rest → spsrIndex (cpsrMode s.core.regs.cpsr) = some k →
      step s = .next { s.afterCompletion rest with
        core.regs.spsr := s.core.regs.spsr.set k s.core.regs.r0 }) ∧
    (s.completing 0xE1A0000F abort rest → s.core.entryIsa = .arm →
      step s = .next { s.afterCompletion rest with
        core.regs := s.core.regs.setR0 (s.core.regs.pc + 8) }) ∧
    (s.completing 0xE1A0000F abort rest → s.core.entryIsa = .thumb →
      step s = .next { s.afterCompletion rest with
        core.regs := s.core.regs.setR0 (s.core.regs.pc + 4) }) ∧
    (s.completing 0xE1A0000F abort rest → s.core.entryIsa = .jazelle →
      step s = .next { s.afterCompletion rest with
        core.regs := s.core.regs.setR0 s.core.regs.pc }) ∧
    (s.completing 0xE1A0F000 abort rest →
      step s = .next { s.afterCompletion rest with core.regs.pc := s.core.regs.r0 }) ∧
    (∀ (rd : BitVec 4) c, s.completing (0xEE10#16 ++ (rd ++ 0xE11#12)) abort rest →
      s.core.regs.writeGpr rd s.dscr = some c →
      step s = .next { s.afterCompletion rest with core.regs := c }) ∧
    (∀ w, s.completing w abort rest → decodeArm w = .coprocRead → s.core.debugState = true →
      step s = .next
        (match Config.coprocRead w s.coprocView with
        | some (v, c) => { s.afterCompletion rest with
            core.regs := { s.core.regs.setR0 v with
              coproc := c.coproc, nonSecure := c.nonSecure, suiden := c.suiden, bigEndian := c.bigEndian }
            dbg.vcr := c.vcr, dbg.bvr := c.bvr, dbg.bcr := c.bcr, dbg.wvr := c.wvr, dbg.wcr := c.wcr
            core.drained := false }
        | none => { s.afterCompletion rest with
            dbg.dscrBits := s.dbg.dscrBits ||| 0x100, core.drained := false })) ∧
    (∀ w, s.completing w abort rest → decodeArm w = .coprocWrite → s.core.debugState = true →
      step s = .next
        (match Config.coprocWrite w s.coprocView s.core.regs.r0 with
        | some c => { s.afterCompletion rest with
            core.regs := { s.core.regs with
              coproc := c.coproc, nonSecure := c.nonSecure, suiden := c.suiden, bigEndian := c.bigEndian }
            dbg.vcr := c.vcr, dbg.bvr := c.bvr, dbg.bcr := c.bcr, dbg.wvr := c.wvr, dbg.wcr := c.wcr
            core.drained := false }
        | none => { s.afterCompletion rest with
            dbg.dscrBits := s.dbg.dscrBits ||| 0x100, core.drained := false })) ∧
    (∀ w, s.completing w abort rest → decodeArm w ≠ .other → decodeArm w ≠ .movToPc →
      ∃ t, step s = .next t ∧ t.core.regs.pc = s.core.regs.pc)

/-- 60_exceptions.md R277 (log 38): recognising a pending imprecise Data Abort in Debug state sets DSCR[7] and does
nothing else but use it up; outside Debug state it only uses it up (what the core does is not in the source: log 38),
and with none pending it changes nothing (log 50); the core may set DSCR[19] at any time (10_state.md R42; log 39). After the Data Synchronization Barrier none can become pending, and the NOP after it
takes every one that is, so that none is recognised later than that pair. When one arises, memory and, in Debug state,
R0 are not to be trusted: they hold what the input says. -/
def Obligations.ImpreciseAborts : Prop :=
  ∀ s rest,
    (s.env.inputs = .impreciseAbortRecognised :: rest → s.core.debugState = true →
      0 < s.core.pendingAborts →
      step s = .next { s.afterInput rest with
        core.pendingAborts := s.core.pendingAborts - 1
        dbg.dscrBits := s.dbg.dscrBits ||| 0x80 }) ∧
    (s.env.inputs = .impreciseAbortRecognised :: rest → s.core.debugState = false →
      0 < s.core.pendingAborts →
      step s = .next { s.afterInput rest with core.pendingAborts := s.core.pendingAborts - 1 }) ∧
    (s.env.inputs = .impreciseAbortRecognised :: rest → s.core.pendingAborts = 0 →
      step s = .next (s.afterInput rest)) ∧
    (s.env.inputs = .coreSetsDscr19 :: rest →
      step s = .next { s.afterInput rest with dbg.dscrBits := s.dbg.dscrBits ||| 0x80000 }) ∧
    (∀ (rd : BitVec 4) abort, s.completing (0xEE07#16 ++ (rd ++ 0xF9A#12)) abort rest →
      step s = .next { s.afterCompletion rest with core.drained := true }) ∧
    (∀ abort, s.completing s.cfg.nopWord abort rest → decodeArm s.cfg.nopWord = .other →
      s.core.drained = true →
      step s = .next { s.afterCompletion rest with
        core.pendingAborts := 0
        dbg.dscrBits :=
          if s.core.pendingAborts = 0 then s.dbg.dscrBits else s.dbg.dscrBits ||| 0x80 }) ∧
    (∀ abort, s.completing s.cfg.nopWord abort rest → decodeArm s.cfg.nopWord = .other →
      s.core.drained = false → step s = .next (s.afterCompletion rest)) ∧
    (∀ r0 l, s.env.inputs = .impreciseAbortArises r0 l :: rest → s.core.drained = true →
      step s = .next (s.afterInput rest)) ∧
    (∀ r0 l, s.env.inputs = .impreciseAbortArises r0 l :: rest → s.core.drained = false →
      step s = .next { s.afterInput rest with
        core.pendingAborts := s.core.pendingAborts + 1
        core.mem := s.core.mem.writeAll l
        core.regs := if s.core.debugState then s.core.regs.setR0 r0 else s.core.regs })

/-- 42_debug_execution.md R194, 60_exceptions.md R281, R282 (D14; log 15, 43, 50): in Debug state the core takes no interrupt, runs
no software of its own, and heeds no debug event and no halt step. -/
def Obligations.DebugStateIgnores : Prop :=
  ∀ s e rest, s.env.inputs = e :: rest → s.core.debugState = true →
    ((∃ x, e = .interrupt x) ∨ (∃ x d, e = .coreRuns x d) ∨ (∃ k, e = .softwareDebugEvent k) ∨
      e = .coreHalt ∨ (∃ op abort, e = .softwareDcc op abort)) →
    step s = .next (s.afterInput rest)

/-- 42_debug_execution.md R199 to R202, R206 (encodings log 31; D28; log 17, 32, 33, 42, 55, 56): software running outside Debug
state writes the wDTR from Rd or from the word at R0 and sets wDTRfull, reads the rDTR into Rd, the CPSR flags or
the word at R0 and sets rDTRempty, and reads the DSCR. With R15 the MCR transfers nothing (its Undefined exception is
the core's own, log 56) and the MRC changes the CPSR flags alone (which, log 35). In User mode with DSCR[12] = 1 the
access is not performed. Any other step of software has the effect its input gives, and changes DSCR[6] only with
DSCR[13] = 0 (41_scan_chains.md R157 d; log 18); that it changes no other bit of the DSCR and none of the VCR, BVRs,
BCRs, WVRs and WCRs is the model's choice (log 55). -/
def Obligations.SoftwareDccAccess : Prop :=
  ∀ s rest, s.core.debugState = false →
    ((s.dbg.dscrBits.getLsbD 12 = false ∨ s.core.regs.cpsr.extractLsb' 0 5 ≠ 0x10#5) →
      (∀ rd v abort, s.env.inputs = .softwareDcc (.mcr rd) abort :: rest → rd ≠ 15 →
        s.core.regs.readGpr rd = some v →
        step s = .next { s.afterInput rest with dbg.wdtr := v, dbg.wdtrFull := true }) ∧
      (∀ abort, s.env.inputs = .softwareDcc (.mcr 15) abort :: rest →
        step s = .next (s.afterInput rest)) ∧
      (∀ rd c abort, s.env.inputs = .softwareDcc (.mrc rd) abort :: rest → rd ≠ 15 →
        s.core.regs.writeGpr rd s.dbg.rdtr = some c →
        step s = .next { s.afterInput rest with core.regs := c, dbg.rdtrEmpty := true }) ∧
      (∀ abort, s.env.inputs = .softwareDcc (.mrc 15) abort :: rest →
        ∃ f : BitVec 4, step s = .next { s.afterInput rest with
          core.regs.cpsr := f ++ s.core.regs.cpsr.extractLsb' 0 28, dbg.rdtrEmpty := true }) ∧
      (∀ rd c abort, s.env.inputs = .softwareDcc (.readDscr rd) abort :: rest →
        s.core.regs.writeGpr rd s.dscr = some c →
        step s = .next { s.afterInput rest with core.regs := c }) ∧
      (s.env.inputs = .softwareDcc .ldc false :: rest → s.core.regs.r0 &&& 3 = 0 →
        step s = .next { s.afterInput rest with
          dbg.wdtr := s.core.mem.loadWord s.core.regs.bigEndian s.core.regs.r0
          dbg.wdtrFull := true, core.drained := false
          core.regs := s.core.regs.setR0 (s.core.regs.r0 + 4) }) ∧
      (s.env.inputs = .softwareDcc .stc false :: rest → s.core.regs.r0 &&& 3 = 0 →
        ∃ m : Memory, step s = .next { s.afterInput rest with
            core.mem := m, dbg.rdtrEmpty := true, core.drained := false
            core.regs := s.core.regs.setR0 (s.core.regs.r0 + 4) } ∧
          m.loadWord s.core.regs.bigEndian s.core.regs.r0 = s.dbg.rdtr ∧
          (∀ a, a < s.core.regs.r0.toNat ∨ s.core.regs.r0.toNat + 4 ≤ a →
            Memory.read m a = Memory.read s.core.mem a)) ∧
      (∀ op, s.env.inputs = .softwareDcc op true :: rest → op = .ldc ∨ op = .stc →
        s.core.regs.r0 &&& 3 = 0 →
        step s = .next { s.afterInput rest with core.drained := false })) ∧
    (s.dbg.dscrBits.getLsbD 12 = true → s.core.regs.cpsr.extractLsb' 0 5 = 0x10#5 →
      ∀ op abort, s.env.inputs = .softwareDcc op abort :: rest →
        step s = .next (s.afterInput rest)) ∧
    (∀ e d, s.env.inputs = .coreRuns e d :: rest →
      step s = .next { s.afterInput rest with
        core.regs := e.regs, core.mem := s.core.mem.writeAll e.stores
        dbg.dscrBits :=
          match d with
          | none => s.dbg.dscrBits
          | some b =>
            if s.execEnabled then s.dbg.dscrBits
            else (s.dbg.dscrBits &&& 0xFFFFFFBF) ||| (if b then 0x40 else 0) })

/-! ### Invariants and rules of the whole machine -/

/-- Every step keeps the invariant of Sys2Proof/Safety.lean: canonical memory; InstCompl = 0 exactly while an
instruction is in flight, and never with DSCR[13] = 0 or DSCR[6] = 1; DSCR[13] and a Restart request
only in Debug state, a Halt request only outside; EDBGRQ and DBGnTRST held; and within a DR scan no
stale Ready latch and no second request. -/
def Obligations.StepKeepsInvariant : Prop :=
  ∀ s t, s.Inv → step s = .next t → t.Inv

/-- 70_reset_and_hazards.md R313: the state after reset meets the invariant and has the values the spec gives.
The clauses of the invariant about memory, the stored DSCR bits and the pins rest at reset on the
model's own values (log 29, 33, 51). R312, R313 (D30; log 28): a processor reset leaves the same values in the debug unit
and the core, but that an EDBGRQ still asserted is a Halt request at once (log 23), and does not touch the DBGTAP
controller, the pins, the parameters or, which is the model's choice (log 28, 40), the ETM. That a processor reset
keeps the invariant is StepKeepsInvariant's to say. -/
def Obligations.ResetMeetsInvariant : Prop :=
  State.reset.Inv ∧ State.reset.ctl.tap = .testLogicReset ∧ State.reset.ctl.ir = 0b11110 ∧
  State.reset.ctl.screg = 0b00011 ∧ State.reset.core.debugState = false ∧
  State.reset.core.haltReq = false ∧ State.reset.core.restartReq = false ∧
  State.reset.core.inFlight = none ∧ State.reset.dbg.instCompl = true ∧
  State.reset.dscr.getLsbD 13 = false ∧ State.reset.dscr.extractLsb' 14 2 = 0b00 ∧
  State.reset.reqCompl = true ∧ State.reset.dbg.req = none ∧ State.reset.dbg.rdData = none ∧
  ∀ s v rest, s.env.inputs = .processorReset v :: rest →
    ∃ t, step s = .next t ∧ t.ctl = s.ctl ∧ t.pins = s.pins ∧ t.cfg = s.cfg ∧ t.etm = s.etm ∧
      t.env.inputs = rest ∧ t.core.debugState = false ∧ t.core.restartReq = false ∧
      t.core.haltReq = (s.pins.edbgrq && s.pins.dbgen) ∧ t.core.inFlight = none ∧
      t.dbg.instCompl = true ∧ t.dscr.getLsbD 13 = false ∧ t.dscr.extractLsb' 14 2 = 0b00 ∧
      t.reqCompl = true ∧ t.dbg.req = none ∧ t.dbg.rdData = none

/-- 10_state.md R57: the views and flags that tie together, in every state that meets the invariant. That
DSCR[0] is the Debug state (R36, D15; log 11) and that ReqCompl is 1 exactly with no request (R45, D11; log 12) are the
model's choices. DSCR[1] is the core restarted flag (R37), and every other bit reads as the stored bit (R35, R44). -/
def Obligations.FlagsAndViews : Prop :=
  ∀ s : State, s.Inv →
    s.dscr.getLsbD 30 = !s.dbg.rdtrEmpty ∧ s.dscr.getLsbD 29 = s.dbg.wdtrFull ∧
    s.dscr.getLsbD 0 = s.core.debugState ∧ s.dscr.getLsbD 1 = s.dbg.coreRestarted ∧
    (∀ k, k ∉ [0, 1, 29, 30] → s.dscr.getLsbD k = s.dbg.dscrBits.getLsbD k) ∧
    (s.dscr.getLsbD 13 = false → s.dbg.instCompl = true) ∧
    (s.reqCompl = true ↔ s.dbg.req = none) ∧
    (s.dscr.getLsbD 6 = true → s.dbg.instCompl = true)

/-- 60_exceptions.md R270, R283 and 70_reset_and_hazards.md R312: the core enters Debug state only by its halt step
on a pending Halt request or by a software debug event in Halting debug-mode, and leaves it only by
its restart step on a pending Restart request with DSCR[13] = 0, or by a processor reset. -/
def Obligations.DebugStateEntryAndExit : Prop :=
  ∀ s t, step s = .next t →
    (s.core.debugState = false → t.core.debugState = true →
      s.debugPermitted = true ∧
      ((∃ rest, s.env.inputs = .coreHalt :: rest ∧ s.core.haltReq = true) ∨
        (∃ k rest, s.env.inputs = .softwareDebugEvent k :: rest ∧
          s.dbg.dscrBits.getLsbD 14 = true))) ∧
    (s.core.debugState = true → t.core.debugState = false →
      (∃ rest, s.env.inputs = .coreRestart :: rest ∧ s.core.restartReq = true ∧
        s.execEnabled = false) ∨
      (∃ v rest, s.env.inputs = .processorReset v :: rest))

/-- 00_scope.md R10, 20_memory.md R82 and 60_exceptions.md R270: a TCK cycle, whatever instruction is current,
leaves alone the core's registers and memory, whether it is in Debug state, the wDTR, the
registers behind scan chain 7, the pins and the parameters. -/
def Obligations.CyclesLeaveTheCore : Prop :=
  ∀ s t tms tdi rest, s.env.inputs = .tck tms tdi :: rest → step s = .next t →
    t.core.regs = s.core.regs ∧ t.core.mem = s.core.mem ∧
    t.core.debugState = s.core.debugState ∧ t.core.entryIsa = s.core.entryIsa ∧
    t.core.pendingAborts = s.core.pendingAborts ∧ t.core.drained = s.core.drained ∧
    t.dbg.wdtr = s.dbg.wdtr ∧ t.dbg.vcr = s.dbg.vcr ∧ t.dbg.bvr = s.dbg.bvr ∧
    t.dbg.bcr = s.dbg.bcr ∧ t.dbg.wvr = s.dbg.wvr ∧ t.dbg.wcr = s.dbg.wcr ∧
    t.pins = s.pins ∧ t.cfg = s.cfg

/-- 10_state.md R23, R24: the IR is written only at Update-IR and by a DBGTAP reset, SCREG only at Update-DR with
Scan_N current and by a DBGTAP reset. -/
def Obligations.WhenIrAndScregChange : Prop :=
  ∀ s t, step s = .next t →
    (t.ctl.ir ≠ s.ctl.ir →
      (∃ rest, s.env.inputs = .trst true :: rest) ∨
      (∃ tms tdi rest, s.env.inputs = .tck tms tdi :: rest ∧
        (s.pins.trst = true ∨ s.ctl.tap = .testLogicReset ∨ (s.ctl.tap = .selectIr ∧ tms = true) ∨
          ((s.ctl.tap = .exit1Ir ∨ s.ctl.tap = .exit2Ir) ∧ tms = true ∧ t.ctl.ir = s.ctl.irs)))) ∧
    (t.ctl.screg ≠ s.ctl.screg →
      (∃ rest, s.env.inputs = .trst true :: rest) ∨
      (∃ tms tdi rest, s.env.inputs = .tck tms tdi :: rest ∧
        (s.pins.trst = true ∨ s.ctl.tap = .testLogicReset ∨ (s.ctl.tap = .selectIr ∧ tms = true) ∨
          (s.ctl.ir = 0b00010 ∧ (s.ctl.tap = .exit1Dr ∨ s.ctl.tap = .exit2Dr) ∧ tms = true ∧
            t.ctl.screg = s.ctl.scs))))

/-- 00_scope.md R6 and 10_state.md R56: no step changes the parameters of the machine. -/
def Obligations.ParametersAreConstant : Prop :=
  ∀ s t, step s = .next t → t.cfg = s.cfg

/-- 10_state.md R51, 42_debug_execution.md R198, R207 (which registers are banked: log 30): the general registers. A register
written holds the value written, every other register of the mode and the CPSR, the SPSRs, the PC and the rest stay;
R0 to R7 are one register in all modes, and R8 to R14 are one register in two modes exactly as the family banks
them (R8 to R12 apart in FIQ mode, R13 and R14 apart in every mode but User and System); only R15, and R8 to R14 of a
mode the family does not name, are no register. -/
def Obligations.GeneralRegisters : Prop :=
  ∀ (c : CoreRegs) (r : BitVec 4) (v : Word),
    (c.writeGpr r v = none ↔ c.readGpr r = none) ∧
    (c.readGpr r = none ↔ r = 15 ∨ (8 ≤ r.toNat ∧ (c.cpsr.extractLsb' 0 5).toNat ∉
      [0x10, 0x11, 0x12, 0x13, 0x16, 0x17, 0x1B, 0x1F])) ∧
    (∀ c', c.writeGpr r v = some c' →
      c'.readGpr r = some v ∧ (∀ q, q ≠ r → c'.readGpr q = c.readGpr q) ∧
      c' = { c with gpr := c'.gpr }) ∧
    (∀ c' p, c.writeGpr r v = some c' →
      let m := (c.cpsr.extractLsb' 0 5).toNat
      let n := (p : Word).extractLsb' 0 5 |>.toNat
      { c' with cpsr := p }.readGpr r =
        if r.toNat < 8 ∨ (n ∈ [0x10, 0x11, 0x12, 0x13, 0x16, 0x17, 0x1B, 0x1F] ∧
            (m = n ∨ (m ∈ [0x10, 0x1F] ∧ n ∈ [0x10, 0x1F]) ∨
              (r.toNat < 13 ∧ m ≠ 0x11 ∧ n ≠ 0x11)))
        then some v else { c with cpsr := p }.readGpr r)
end

