-- ==== Sys2Proof/Laws/Memory.lean ====
section
/-! SUPPORT. The laws of the core's memory: a byte reads back, a store leaves every other byte alone, and
every memory operation keeps the canonical form. -/

namespace Sys2Proof.Machine

@[simp] theorem Memory.read_nil (a : Nat) : Memory.read [] a = none := rfl

/-- Addresses above a bound, as the tail of a rising list has them. -/
theorem Memory.rising_cons {a : Nat} {v : Byte} {m : Memory} :
    Memory.rising ((a, v) :: m) = true ↔
      (∀ c ∈ m.head?, a < c.1) ∧ Memory.rising m = true := by
  cases m with
  | nil => simp [Memory.rising]
  | cons c m => obtain ⟨b, w⟩ := c; simp [Memory.rising]

theorem Memory.rising_head_le {a : Nat} {v : Byte} {m : Memory}
    (h : Memory.rising ((a, v) :: m) = true) : ∀ c ∈ m, a < c.1 := by
  induction m generalizing a v with
  | nil => simp
  | cons c m ih =>
    obtain ⟨b, w⟩ := c
    obtain ⟨h1, h2⟩ := Memory.rising_cons.mp h
    have hb : a < b := by simpa using h1
    intro d hd
    rcases List.mem_cons.mp hd with rfl | hd
    · exact hb
    · exact hb.trans (ih h2 d hd)

/-- A byte just stored reads back. -/
theorem Memory.read_write_same (m : Memory) (a : Nat) (v : Byte) :
    Memory.read (Memory.write m a v) a = some v := by
  induction m with
  | nil => simp [Memory.write, Memory.read]
  | cons c m ih =>
    obtain ⟨b, w⟩ := c
    unfold Memory.write
    split
    · simp [Memory.read]
    · split
      · simp [Memory.read]
      · simp [Memory.read, *]

/-- A store leaves every other byte alone. -/
theorem Memory.read_write_other (m : Memory) {a b : Nat} (v : Byte) (h : b ≠ a) :
    Memory.read (Memory.write m a v) b = Memory.read m b := by
  induction m with
  | nil => simp [Memory.write, Memory.read, h]
  | cons c m ih =>
    obtain ⟨d, w⟩ := c
    unfold Memory.write
    split
    · next e => subst e; simp [Memory.read, h]
    · split
      · next hne hlt =>
        simp only [Memory.read, h, if_false]
        by_cases hba : b < a
        · have : b ≠ d := by omega
          have : b < d := by omega
          simp [*]
        · simp [hba]
      · simp only [Memory.read, ih]

/-- Stores in order leave every byte alone that none of them names. -/
theorem Memory.read_writeAll_other (m : Memory) {b : Nat} (l : List (Word × Byte))
    (h : ∀ c ∈ l, c.1.toNat ≠ b) : Memory.read (Memory.writeAll m l) b = Memory.read m b := by
  induction l generalizing m with
  | nil => rfl
  | cons c l ih =>
    obtain ⟨a, v⟩ := c
    simp only [Memory.writeAll]
    rw [ih _ fun c hc => h c (List.mem_cons_of_mem _ hc),
      Memory.read_write_other _ _ (h (a, v) (by simp)).symm]

theorem Memory.mem_write {m : Memory} {a : Nat} {v : Byte} {c : Nat × Byte}
    (h : c ∈ Memory.write m a v) : c = (a, v) ∨ c ∈ m := by
  induction m with
  | nil => exact .inl (by simpa [Memory.write] using h)
  | cons d m ih =>
    obtain ⟨b, w⟩ := d
    unfold Memory.write at h
    split at h
    · rcases List.mem_cons.mp h with h | h
      · exact .inl h
      · exact .inr (List.mem_cons_of_mem _ h)
    · split at h
      · rcases List.mem_cons.mp h with h | h
        · exact .inl h
        · exact .inr h
      · rcases List.mem_cons.mp h with h | h
        · exact .inr (by simp [h])
        · exact (ih h).imp_right (List.mem_cons_of_mem _)

/-- A store keeps the addresses rising. -/
theorem Memory.rising_write (m : Memory) (a : Nat) (v : Byte) (h : Memory.rising m = true) :
    Memory.rising (Memory.write m a v) = true := by
  induction m with
  | nil => rfl
  | cons c m ih =>
    obtain ⟨b, w⟩ := c
    unfold Memory.write
    split
    · next e => subst e; exact Memory.rising_cons.mpr (Memory.rising_cons.mp h)
    · split
      · next hlt => exact Memory.rising_cons.mpr ⟨by simpa using hlt, h⟩
      · next hne hnl =>
        refine Memory.rising_cons.mpr ⟨?_, ih (Memory.rising_cons.mp h).2⟩
        intro c hc
        rcases Memory.mem_write (List.mem_of_mem_head? hc) with rfl | hc
        · simp only; omega
        · exact Memory.rising_head_le h c hc

/-- A store inside the address space keeps the canonical form. -/
theorem Memory.wf_write {m : Memory} {a : Nat} (v : Byte) (h : Memory.wf m = true)
    (ha : a < 2 ^ 32) : Memory.wf (Memory.write m a v) = true := by
  simp only [Memory.wf, Bool.and_eq_true, List.all_eq_true, decide_eq_true_eq] at h ⊢
  refine ⟨Memory.rising_write m a v h.1, fun c hc => ?_⟩
  rcases Memory.mem_write hc with rfl | hc
  · exact ha
  · exact h.2 c hc

/-- Stores at 32-bit addresses keep the canonical form. -/
theorem Memory.wf_writeAll {m : Memory} (l : List (Word × Byte)) (h : Memory.wf m = true) :
    Memory.wf (Memory.writeAll m l) = true := by
  induction l generalizing m with
  | nil => exact h
  | cons c l ih =>
    obtain ⟨a, v⟩ := c
    exact ih (Memory.wf_write v h a.isLt)

/-- The memory at reset is in canonical form. -/
theorem Memory.wf_reset : Memory.wf State.reset.core.mem = true := rfl

/-- The addresses an access of `n` bytes stores to. -/
theorem mem_storeBytes {e : Bool} {n : Nat} {a v : Word} {c : Word × Byte}
    (h : c ∈ storeBytes e n a v) : ∃ i < n, c.1 = a + BitVec.ofNat 32 i := by
  obtain ⟨i, hi, rfl⟩ := List.mem_map.mp h
  exact ⟨i, List.mem_range.mp hi, rfl⟩

/-- Byte stores to different addresses: each byte reads as it was stored. -/
theorem Memory.read_writeAll_at (m : Memory) (l : List (Word × Byte)) {a : Word} {v : Byte}
    (h : (a, v) ∈ l) (hn : (l.map (fun c => c.1.toNat)).Nodup) :
    Memory.read (m.writeAll l) a.toNat = some v := by
  induction l generalizing m with
  | nil => cases h
  | cons c l ih =>
    obtain ⟨b, w⟩ := c
    simp only [List.map_cons, List.nodup_cons] at hn
    rcases List.mem_cons.mp h with h | h
    · cases h
      simp only [Memory.writeAll]
      rw [Memory.read_writeAll_other, Memory.read_write_same]
      exact fun c hc e => hn.1 (List.mem_map.mpr ⟨c, hc, e⟩)
    · exact ih _ h hn.2

/-- What a store of `n` bytes below the top of memory does: each of its bytes, and every other. -/
theorem Memory.read_storeBytes (m : Memory) (e : Bool) {n : Nat} {r : Word} (v : Word)
    (h : r.toNat + n ≤ 2 ^ 32) :
    (∀ k < n, Memory.read (m.writeAll (storeBytes e n r v)) (r.toNat + k) =
      some (laneByte e n v k)) ∧
    (∀ a, a < r.toNat ∨ r.toNat + n ≤ a →
      Memory.read (m.writeAll (storeBytes e n r v)) a = Memory.read m a) := by
  have ad : ∀ i < n, (r + BitVec.ofNat 32 i).toNat = r.toNat + i := by
    intro i hi
    rw [BitVec.toNat_add, BitVec.toNat_ofNat]; omega
  refine ⟨fun k hk => ?_, fun a ha => Memory.read_writeAll_other _ _ fun c hc he => ?_⟩
  · rw [← ad k hk]
    refine Memory.read_writeAll_at _ _ (List.mem_map.mpr ⟨k, List.mem_range.mpr hk, rfl⟩) ?_
    rw [storeBytes, List.map_map]
    refine (List.nodup_map_iff_inj_on List.nodup_range).mpr fun x hx y hy he => ?_
    simp only [Function.comp] at he
    rw [ad x (List.mem_range.mp hx), ad y (List.mem_range.mp hy)] at he
    omega
  · obtain ⟨i, hi, hc'⟩ := mem_storeBytes hc
    rw [hc', ad i hi] at he
    omega

/-- A load of a byte the model holds. -/
theorem Memory.loadByte_of_read {m : Memory} {a : Word} {v : Byte}
    (h : Memory.read m a.toNat = some v) : m.loadByte a = v := by
  simp only [Memory.loadByte, h]

end Sys2Proof.Machine
end

