-- ==== Sys2Proof/Laws/State.lean ====
section
/-! SUPPORT. What each shared update of the state does to each field: one lemma per field, true by rfl. -/

namespace Sys2Proof.Machine

variable (s : State)

/-! ### usedDraws -/

@[simp] theorem State.usedDraws_ctl (n : Nat) : (State.usedDraws n s).ctl = s.ctl := rfl

@[simp] theorem State.usedDraws_dbg (n : Nat) : (State.usedDraws n s).dbg = s.dbg := rfl

@[simp] theorem State.usedDraws_core (n : Nat) : (State.usedDraws n s).core = s.core := rfl

@[simp] theorem State.usedDraws_pins (n : Nat) : (State.usedDraws n s).pins = s.pins := rfl

@[simp] theorem State.usedDraws_cfg (n : Nat) : (State.usedDraws n s).cfg = s.cfg := rfl

@[simp] theorem State.usedDraws_etm (n : Nat) : (State.usedDraws n s).etm = s.etm := rfl

@[simp] theorem State.usedDraws_env_inputs (n : Nat) :
    (State.usedDraws n s).env.inputs = s.env.inputs := rfl

@[simp] theorem State.usedDraws_env_draws (n : Nat) :
    (State.usedDraws n s).env.draws = s.env.draws.drop n := rfl

@[simp] theorem State.usedDraws_env_drawCount (n : Nat) :
    (State.usedDraws n s).env.drawCount = s.env.drawCount + n := rfl

/-! ### setDscrBit -/

@[simp] theorem State.setDscrBit_ctl (n : Nat) (b : Bool) : (State.setDscrBit n b s).ctl = s.ctl := rfl

@[simp] theorem State.setDscrBit_dbg_dscrBits (n : Nat) (b : Bool) :
    (State.setDscrBit n b s).dbg.dscrBits = setBit n b s.dbg.dscrBits := rfl

@[simp] theorem State.setDscrBit_dbg_coreRestarted (n : Nat) (b : Bool) :
    (State.setDscrBit n b s).dbg.coreRestarted = s.dbg.coreRestarted := rfl

@[simp] theorem State.setDscrBit_dbg_itr (n : Nat) (b : Bool) :
    (State.setDscrBit n b s).dbg.itr = s.dbg.itr := rfl

@[simp] theorem State.setDscrBit_dbg_instCompl (n : Nat) (b : Bool) :
    (State.setDscrBit n b s).dbg.instCompl = s.dbg.instCompl := rfl

@[simp] theorem State.setDscrBit_dbg_rdtr (n : Nat) (b : Bool) :
    (State.setDscrBit n b s).dbg.rdtr = s.dbg.rdtr := rfl

@[simp] theorem State.setDscrBit_dbg_rdtrEmpty (n : Nat) (b : Bool) :
    (State.setDscrBit n b s).dbg.rdtrEmpty = s.dbg.rdtrEmpty := rfl

@[simp] theorem State.setDscrBit_dbg_wdtr (n : Nat) (b : Bool) :
    (State.setDscrBit n b s).dbg.wdtr = s.dbg.wdtr := rfl

@[simp] theorem State.setDscrBit_dbg_wdtrFull (n : Nat) (b : Bool) :
    (State.setDscrBit n b s).dbg.wdtrFull = s.dbg.wdtrFull := rfl

@[simp] theorem State.setDscrBit_dbg_req (n : Nat) (b : Bool) :
    (State.setDscrBit n b s).dbg.req = s.dbg.req := rfl

@[simp] theorem State.setDscrBit_dbg_rdData (n : Nat) (b : Bool) :
    (State.setDscrBit n b s).dbg.rdData = s.dbg.rdData := rfl

@[simp] theorem State.setDscrBit_dbg_vcr (n : Nat) (b : Bool) :
    (State.setDscrBit n b s).dbg.vcr = s.dbg.vcr := rfl

@[simp] theorem State.setDscrBit_dbg_bvr (n : Nat) (b : Bool) :
    (State.setDscrBit n b s).dbg.bvr = s.dbg.bvr := rfl

@[simp] theorem State.setDscrBit_dbg_bcr (n : Nat) (b : Bool) :
    (State.setDscrBit n b s).dbg.bcr = s.dbg.bcr := rfl

@[simp] theorem State.setDscrBit_dbg_wvr (n : Nat) (b : Bool) :
    (State.setDscrBit n b s).dbg.wvr = s.dbg.wvr := rfl

@[simp] theorem State.setDscrBit_dbg_wcr (n : Nat) (b : Bool) :
    (State.setDscrBit n b s).dbg.wcr = s.dbg.wcr := rfl

@[simp] theorem State.setDscrBit_core (n : Nat) (b : Bool) : (State.setDscrBit n b s).core = s.core := rfl

@[simp] theorem State.setDscrBit_pins (n : Nat) (b : Bool) : (State.setDscrBit n b s).pins = s.pins := rfl

@[simp] theorem State.setDscrBit_cfg (n : Nat) (b : Bool) : (State.setDscrBit n b s).cfg = s.cfg := rfl

@[simp] theorem State.setDscrBit_etm (n : Nat) (b : Bool) : (State.setDscrBit n b s).etm = s.etm := rfl

@[simp] theorem State.setDscrBit_env (n : Nat) (b : Bool) : (State.setDscrBit n b s).env = s.env := rfl

/-! ### clearSticky -/

@[simp] theorem State.clearSticky_ctl : (State.clearSticky s).ctl = s.ctl := rfl

@[simp] theorem State.clearSticky_dbg_dscrBits :
    (State.clearSticky s).dbg.dscrBits = s.dbg.dscrBits &&& ~~~(0x000001C0 : Word) := rfl

@[simp] theorem State.clearSticky_dbg_coreRestarted :
    (State.clearSticky s).dbg.coreRestarted = s.dbg.coreRestarted := rfl

@[simp] theorem State.clearSticky_dbg_itr :
    (State.clearSticky s).dbg.itr = s.dbg.itr := rfl

@[simp] theorem State.clearSticky_dbg_instCompl :
    (State.clearSticky s).dbg.instCompl = s.dbg.instCompl := rfl

@[simp] theorem State.clearSticky_dbg_rdtr :
    (State.clearSticky s).dbg.rdtr = s.dbg.rdtr := rfl

@[simp] theorem State.clearSticky_dbg_rdtrEmpty :
    (State.clearSticky s).dbg.rdtrEmpty = s.dbg.rdtrEmpty := rfl

@[simp] theorem State.clearSticky_dbg_wdtr :
    (State.clearSticky s).dbg.wdtr = s.dbg.wdtr := rfl

@[simp] theorem State.clearSticky_dbg_wdtrFull :
    (State.clearSticky s).dbg.wdtrFull = s.dbg.wdtrFull := rfl

@[simp] theorem State.clearSticky_dbg_req :
    (State.clearSticky s).dbg.req = s.dbg.req := rfl

@[simp] theorem State.clearSticky_dbg_rdData :
    (State.clearSticky s).dbg.rdData = s.dbg.rdData := rfl

@[simp] theorem State.clearSticky_dbg_vcr :
    (State.clearSticky s).dbg.vcr = s.dbg.vcr := rfl

@[simp] theorem State.clearSticky_dbg_bvr :
    (State.clearSticky s).dbg.bvr = s.dbg.bvr := rfl

@[simp] theorem State.clearSticky_dbg_bcr :
    (State.clearSticky s).dbg.bcr = s.dbg.bcr := rfl

@[simp] theorem State.clearSticky_dbg_wvr :
    (State.clearSticky s).dbg.wvr = s.dbg.wvr := rfl

@[simp] theorem State.clearSticky_dbg_wcr :
    (State.clearSticky s).dbg.wcr = s.dbg.wcr := rfl

@[simp] theorem State.clearSticky_core : (State.clearSticky s).core = s.core := rfl

@[simp] theorem State.clearSticky_pins : (State.clearSticky s).pins = s.pins := rfl

@[simp] theorem State.clearSticky_cfg : (State.clearSticky s).cfg = s.cfg := rfl

@[simp] theorem State.clearSticky_etm : (State.clearSticky s).etm = s.etm := rfl

@[simp] theorem State.clearSticky_env : (State.clearSticky s).env = s.env := rfl

/-! ### enterDebugState -/

@[simp] theorem State.enterDebugState_ctl : (State.enterDebugState s).ctl = s.ctl := rfl

@[simp] theorem State.enterDebugState_dbg : (State.enterDebugState s).dbg = s.dbg := rfl

@[simp] theorem State.enterDebugState_core_debugState :
    (State.enterDebugState s).core.debugState = true := rfl

@[simp] theorem State.enterDebugState_core_haltReq :
    (State.enterDebugState s).core.haltReq = s.core.haltReq := rfl

@[simp] theorem State.enterDebugState_core_restartReq :
    (State.enterDebugState s).core.restartReq = s.core.restartReq := rfl

@[simp] theorem State.enterDebugState_core_inFlight :
    (State.enterDebugState s).core.inFlight = s.core.inFlight := rfl

@[simp] theorem State.enterDebugState_core_entryIsa :
    (State.enterDebugState s).core.entryIsa = isaOf s.core.regs.cpsr := rfl

@[simp] theorem State.enterDebugState_core_pendingAborts :
    (State.enterDebugState s).core.pendingAborts = s.core.pendingAborts := rfl

@[simp] theorem State.enterDebugState_core_drained :
    (State.enterDebugState s).core.drained = s.core.drained := rfl

@[simp] theorem State.enterDebugState_core_regs :
    (State.enterDebugState s).core.regs = s.core.regs := rfl

@[simp] theorem State.enterDebugState_core_mem :
    (State.enterDebugState s).core.mem = s.core.mem := rfl

@[simp] theorem State.enterDebugState_pins : (State.enterDebugState s).pins = s.pins := rfl

@[simp] theorem State.enterDebugState_cfg : (State.enterDebugState s).cfg = s.cfg := rfl

@[simp] theorem State.enterDebugState_etm : (State.enterDebugState s).etm = s.etm := rfl

@[simp] theorem State.enterDebugState_env : (State.enterDebugState s).env = s.env := rfl

/-! ### writeWdtr -/

@[simp] theorem State.writeWdtr_ctl (v : Word) : (State.writeWdtr v s).ctl = s.ctl := rfl

@[simp] theorem State.writeWdtr_dbg_dscrBits (v : Word) :
    (State.writeWdtr v s).dbg.dscrBits = s.dbg.dscrBits := rfl

@[simp] theorem State.writeWdtr_dbg_coreRestarted (v : Word) :
    (State.writeWdtr v s).dbg.coreRestarted = s.dbg.coreRestarted := rfl

@[simp] theorem State.writeWdtr_dbg_itr (v : Word) :
    (State.writeWdtr v s).dbg.itr = s.dbg.itr := rfl

@[simp] theorem State.writeWdtr_dbg_instCompl (v : Word) :
    (State.writeWdtr v s).dbg.instCompl = s.dbg.instCompl := rfl

@[simp] theorem State.writeWdtr_dbg_rdtr (v : Word) :
    (State.writeWdtr v s).dbg.rdtr = s.dbg.rdtr := rfl

@[simp] theorem State.writeWdtr_dbg_rdtrEmpty (v : Word) :
    (State.writeWdtr v s).dbg.rdtrEmpty = s.dbg.rdtrEmpty := rfl

@[simp] theorem State.writeWdtr_dbg_wdtr (v : Word) :
    (State.writeWdtr v s).dbg.wdtr = v := rfl

@[simp] theorem State.writeWdtr_dbg_wdtrFull (v : Word) :
    (State.writeWdtr v s).dbg.wdtrFull = true := rfl

@[simp] theorem State.writeWdtr_dbg_req (v : Word) :
    (State.writeWdtr v s).dbg.req = s.dbg.req := rfl

@[simp] theorem State.writeWdtr_dbg_rdData (v : Word) :
    (State.writeWdtr v s).dbg.rdData = s.dbg.rdData := rfl

@[simp] theorem State.writeWdtr_dbg_vcr (v : Word) :
    (State.writeWdtr v s).dbg.vcr = s.dbg.vcr := rfl

@[simp] theorem State.writeWdtr_dbg_bvr (v : Word) :
    (State.writeWdtr v s).dbg.bvr = s.dbg.bvr := rfl

@[simp] theorem State.writeWdtr_dbg_bcr (v : Word) :
    (State.writeWdtr v s).dbg.bcr = s.dbg.bcr := rfl

@[simp] theorem State.writeWdtr_dbg_wvr (v : Word) :
    (State.writeWdtr v s).dbg.wvr = s.dbg.wvr := rfl

@[simp] theorem State.writeWdtr_dbg_wcr (v : Word) :
    (State.writeWdtr v s).dbg.wcr = s.dbg.wcr := rfl

@[simp] theorem State.writeWdtr_core (v : Word) : (State.writeWdtr v s).core = s.core := rfl

@[simp] theorem State.writeWdtr_pins (v : Word) : (State.writeWdtr v s).pins = s.pins := rfl

@[simp] theorem State.writeWdtr_cfg (v : Word) : (State.writeWdtr v s).cfg = s.cfg := rfl

@[simp] theorem State.writeWdtr_etm (v : Word) : (State.writeWdtr v s).etm = s.etm := rfl

@[simp] theorem State.writeWdtr_env (v : Word) : (State.writeWdtr v s).env = s.env := rfl

/-! ### readRdtr -/

@[simp] theorem State.readRdtr_ctl : (State.readRdtr s).ctl = s.ctl := rfl

@[simp] theorem State.readRdtr_dbg_dscrBits :
    (State.readRdtr s).dbg.dscrBits = s.dbg.dscrBits := rfl

@[simp] theorem State.readRdtr_dbg_coreRestarted :
    (State.readRdtr s).dbg.coreRestarted = s.dbg.coreRestarted := rfl

@[simp] theorem State.readRdtr_dbg_itr :
    (State.readRdtr s).dbg.itr = s.dbg.itr := rfl

@[simp] theorem State.readRdtr_dbg_instCompl :
    (State.readRdtr s).dbg.instCompl = s.dbg.instCompl := rfl

@[simp] theorem State.readRdtr_dbg_rdtr :
    (State.readRdtr s).dbg.rdtr = s.dbg.rdtr := rfl

@[simp] theorem State.readRdtr_dbg_rdtrEmpty :
    (State.readRdtr s).dbg.rdtrEmpty = true := rfl

@[simp] theorem State.readRdtr_dbg_wdtr :
    (State.readRdtr s).dbg.wdtr = s.dbg.wdtr := rfl

@[simp] theorem State.readRdtr_dbg_wdtrFull :
    (State.readRdtr s).dbg.wdtrFull = s.dbg.wdtrFull := rfl

@[simp] theorem State.readRdtr_dbg_req :
    (State.readRdtr s).dbg.req = s.dbg.req := rfl

@[simp] theorem State.readRdtr_dbg_rdData :
    (State.readRdtr s).dbg.rdData = s.dbg.rdData := rfl

@[simp] theorem State.readRdtr_dbg_vcr :
    (State.readRdtr s).dbg.vcr = s.dbg.vcr := rfl

@[simp] theorem State.readRdtr_dbg_bvr :
    (State.readRdtr s).dbg.bvr = s.dbg.bvr := rfl

@[simp] theorem State.readRdtr_dbg_bcr :
    (State.readRdtr s).dbg.bcr = s.dbg.bcr := rfl

@[simp] theorem State.readRdtr_dbg_wvr :
    (State.readRdtr s).dbg.wvr = s.dbg.wvr := rfl

@[simp] theorem State.readRdtr_dbg_wcr :
    (State.readRdtr s).dbg.wcr = s.dbg.wcr := rfl

@[simp] theorem State.readRdtr_core : (State.readRdtr s).core = s.core := rfl

@[simp] theorem State.readRdtr_pins : (State.readRdtr s).pins = s.pins := rfl

@[simp] theorem State.readRdtr_cfg : (State.readRdtr s).cfg = s.cfg := rfl

@[simp] theorem State.readRdtr_etm : (State.readRdtr s).etm = s.etm := rfl

@[simp] theorem State.readRdtr_env : (State.readRdtr s).env = s.env := rfl

/-! ### issue -/

@[simp] theorem State.issue_ctl : (State.issue s).ctl = s.ctl := rfl

@[simp] theorem State.issue_dbg_dscrBits :
    (State.issue s).dbg.dscrBits = s.dbg.dscrBits := rfl

@[simp] theorem State.issue_dbg_coreRestarted :
    (State.issue s).dbg.coreRestarted = s.dbg.coreRestarted := rfl

@[simp] theorem State.issue_dbg_itr :
    (State.issue s).dbg.itr = s.dbg.itr := rfl

@[simp] theorem State.issue_dbg_instCompl :
    (State.issue s).dbg.instCompl = false := rfl

@[simp] theorem State.issue_dbg_rdtr :
    (State.issue s).dbg.rdtr = s.dbg.rdtr := rfl

@[simp] theorem State.issue_dbg_rdtrEmpty :
    (State.issue s).dbg.rdtrEmpty = s.dbg.rdtrEmpty := rfl

@[simp] theorem State.issue_dbg_wdtr :
    (State.issue s).dbg.wdtr = s.dbg.wdtr := rfl

@[simp] theorem State.issue_dbg_wdtrFull :
    (State.issue s).dbg.wdtrFull = s.dbg.wdtrFull := rfl

@[simp] theorem State.issue_dbg_req :
    (State.issue s).dbg.req = s.dbg.req := rfl

@[simp] theorem State.issue_dbg_rdData :
    (State.issue s).dbg.rdData = s.dbg.rdData := rfl

@[simp] theorem State.issue_dbg_vcr :
    (State.issue s).dbg.vcr = s.dbg.vcr := rfl

@[simp] theorem State.issue_dbg_bvr :
    (State.issue s).dbg.bvr = s.dbg.bvr := rfl

@[simp] theorem State.issue_dbg_bcr :
    (State.issue s).dbg.bcr = s.dbg.bcr := rfl

@[simp] theorem State.issue_dbg_wvr :
    (State.issue s).dbg.wvr = s.dbg.wvr := rfl

@[simp] theorem State.issue_dbg_wcr :
    (State.issue s).dbg.wcr = s.dbg.wcr := rfl

@[simp] theorem State.issue_core_debugState :
    (State.issue s).core.debugState = s.core.debugState := rfl

@[simp] theorem State.issue_core_haltReq :
    (State.issue s).core.haltReq = s.core.haltReq := rfl

@[simp] theorem State.issue_core_restartReq :
    (State.issue s).core.restartReq = s.core.restartReq := rfl

@[simp] theorem State.issue_core_inFlight :
    (State.issue s).core.inFlight = some s.dbg.itr := rfl

@[simp] theorem State.issue_core_entryIsa :
    (State.issue s).core.entryIsa = s.core.entryIsa := rfl

@[simp] theorem State.issue_core_pendingAborts :
    (State.issue s).core.pendingAborts = s.core.pendingAborts := rfl

@[simp] theorem State.issue_core_drained :
    (State.issue s).core.drained = s.core.drained := rfl

@[simp] theorem State.issue_core_regs :
    (State.issue s).core.regs = s.core.regs := rfl

@[simp] theorem State.issue_core_mem :
    (State.issue s).core.mem = s.core.mem := rfl

@[simp] theorem State.issue_pins : (State.issue s).pins = s.pins := rfl

@[simp] theorem State.issue_cfg : (State.issue s).cfg = s.cfg := rfl

@[simp] theorem State.issue_etm : (State.issue s).etm = s.etm := rfl

@[simp] theorem State.issue_env : (State.issue s).env = s.env := rfl

/-! ### finishRead -/

@[simp] theorem State.finishRead_ctl (v : Word) : (State.finishRead v s).ctl = s.ctl := rfl

@[simp] theorem State.finishRead_dbg_dscrBits (v : Word) :
    (State.finishRead v s).dbg.dscrBits = s.dbg.dscrBits := rfl

@[simp] theorem State.finishRead_dbg_coreRestarted (v : Word) :
    (State.finishRead v s).dbg.coreRestarted = s.dbg.coreRestarted := rfl

@[simp] theorem State.finishRead_dbg_itr (v : Word) :
    (State.finishRead v s).dbg.itr = s.dbg.itr := rfl

@[simp] theorem State.finishRead_dbg_instCompl (v : Word) :
    (State.finishRead v s).dbg.instCompl = s.dbg.instCompl := rfl

@[simp] theorem State.finishRead_dbg_rdtr (v : Word) :
    (State.finishRead v s).dbg.rdtr = s.dbg.rdtr := rfl

@[simp] theorem State.finishRead_dbg_rdtrEmpty (v : Word) :
    (State.finishRead v s).dbg.rdtrEmpty = s.dbg.rdtrEmpty := rfl

@[simp] theorem State.finishRead_dbg_wdtr (v : Word) :
    (State.finishRead v s).dbg.wdtr = s.dbg.wdtr := rfl

@[simp] theorem State.finishRead_dbg_wdtrFull (v : Word) :
    (State.finishRead v s).dbg.wdtrFull = s.dbg.wdtrFull := rfl

@[simp] theorem State.finishRead_dbg_req (v : Word) :
    (State.finishRead v s).dbg.req = none := rfl

@[simp] theorem State.finishRead_dbg_rdData (v : Word) :
    (State.finishRead v s).dbg.rdData = some v := rfl

@[simp] theorem State.finishRead_dbg_vcr (v : Word) :
    (State.finishRead v s).dbg.vcr = s.dbg.vcr := rfl

@[simp] theorem State.finishRead_dbg_bvr (v : Word) :
    (State.finishRead v s).dbg.bvr = s.dbg.bvr := rfl

@[simp] theorem State.finishRead_dbg_bcr (v : Word) :
    (State.finishRead v s).dbg.bcr = s.dbg.bcr := rfl

@[simp] theorem State.finishRead_dbg_wvr (v : Word) :
    (State.finishRead v s).dbg.wvr = s.dbg.wvr := rfl

@[simp] theorem State.finishRead_dbg_wcr (v : Word) :
    (State.finishRead v s).dbg.wcr = s.dbg.wcr := rfl

@[simp] theorem State.finishRead_core (v : Word) : (State.finishRead v s).core = s.core := rfl

@[simp] theorem State.finishRead_pins (v : Word) : (State.finishRead v s).pins = s.pins := rfl

@[simp] theorem State.finishRead_cfg (v : Word) : (State.finishRead v s).cfg = s.cfg := rfl

@[simp] theorem State.finishRead_etm (v : Word) : (State.finishRead v s).etm = s.etm := rfl

@[simp] theorem State.finishRead_env (v : Word) : (State.finishRead v s).env = s.env := rfl

/-! ### finishWrite -/

@[simp] theorem State.finishWrite_ctl : (State.finishWrite s).ctl = s.ctl := rfl

@[simp] theorem State.finishWrite_dbg_dscrBits :
    (State.finishWrite s).dbg.dscrBits = s.dbg.dscrBits := rfl

@[simp] theorem State.finishWrite_dbg_coreRestarted :
    (State.finishWrite s).dbg.coreRestarted = s.dbg.coreRestarted := rfl

@[simp] theorem State.finishWrite_dbg_itr :
    (State.finishWrite s).dbg.itr = s.dbg.itr := rfl

@[simp] theorem State.finishWrite_dbg_instCompl :
    (State.finishWrite s).dbg.instCompl = s.dbg.instCompl := rfl

@[simp] theorem State.finishWrite_dbg_rdtr :
    (State.finishWrite s).dbg.rdtr = s.dbg.rdtr := rfl

@[simp] theorem State.finishWrite_dbg_rdtrEmpty :
    (State.finishWrite s).dbg.rdtrEmpty = s.dbg.rdtrEmpty := rfl

@[simp] theorem State.finishWrite_dbg_wdtr :
    (State.finishWrite s).dbg.wdtr = s.dbg.wdtr := rfl

@[simp] theorem State.finishWrite_dbg_wdtrFull :
    (State.finishWrite s).dbg.wdtrFull = s.dbg.wdtrFull := rfl

@[simp] theorem State.finishWrite_dbg_req :
    (State.finishWrite s).dbg.req = none := rfl

@[simp] theorem State.finishWrite_dbg_rdData :
    (State.finishWrite s).dbg.rdData = none := rfl

@[simp] theorem State.finishWrite_dbg_vcr :
    (State.finishWrite s).dbg.vcr = s.dbg.vcr := rfl

@[simp] theorem State.finishWrite_dbg_bvr :
    (State.finishWrite s).dbg.bvr = s.dbg.bvr := rfl

@[simp] theorem State.finishWrite_dbg_bcr :
    (State.finishWrite s).dbg.bcr = s.dbg.bcr := rfl

@[simp] theorem State.finishWrite_dbg_wvr :
    (State.finishWrite s).dbg.wvr = s.dbg.wvr := rfl

@[simp] theorem State.finishWrite_dbg_wcr :
    (State.finishWrite s).dbg.wcr = s.dbg.wcr := rfl

@[simp] theorem State.finishWrite_core : (State.finishWrite s).core = s.core := rfl

@[simp] theorem State.finishWrite_pins : (State.finishWrite s).pins = s.pins := rfl

@[simp] theorem State.finishWrite_cfg : (State.finishWrite s).cfg = s.cfg := rfl

@[simp] theorem State.finishWrite_etm : (State.finishWrite s).etm = s.etm := rfl

@[simp] theorem State.finishWrite_env : (State.finishWrite s).env = s.env := rfl

/-! ### setRegs -/

@[simp] theorem State.setRegs_ctl (c : CoreRegs) : (State.setRegs c s).ctl = s.ctl := rfl

@[simp] theorem State.setRegs_dbg (c : CoreRegs) : (State.setRegs c s).dbg = s.dbg := rfl

@[simp] theorem State.setRegs_core_debugState (c : CoreRegs) :
    (State.setRegs c s).core.debugState = s.core.debugState := rfl

@[simp] theorem State.setRegs_core_haltReq (c : CoreRegs) :
    (State.setRegs c s).core.haltReq = s.core.haltReq := rfl

@[simp] theorem State.setRegs_core_restartReq (c : CoreRegs) :
    (State.setRegs c s).core.restartReq = s.core.restartReq := rfl

@[simp] theorem State.setRegs_core_inFlight (c : CoreRegs) :
    (State.setRegs c s).core.inFlight = s.core.inFlight := rfl

@[simp] theorem State.setRegs_core_entryIsa (c : CoreRegs) :
    (State.setRegs c s).core.entryIsa = s.core.entryIsa := rfl

@[simp] theorem State.setRegs_core_pendingAborts (c : CoreRegs) :
    (State.setRegs c s).core.pendingAborts = s.core.pendingAborts := rfl

@[simp] theorem State.setRegs_core_drained (c : CoreRegs) :
    (State.setRegs c s).core.drained = s.core.drained := rfl

@[simp] theorem State.setRegs_core_regs (c : CoreRegs) :
    (State.setRegs c s).core.regs = c := rfl

@[simp] theorem State.setRegs_core_mem (c : CoreRegs) :
    (State.setRegs c s).core.mem = s.core.mem := rfl

@[simp] theorem State.setRegs_pins (c : CoreRegs) : (State.setRegs c s).pins = s.pins := rfl

@[simp] theorem State.setRegs_cfg (c : CoreRegs) : (State.setRegs c s).cfg = s.cfg := rfl

@[simp] theorem State.setRegs_etm (c : CoreRegs) : (State.setRegs c s).etm = s.etm := rfl

@[simp] theorem State.setRegs_env (c : CoreRegs) : (State.setRegs c s).env = s.env := rfl

/-! ### applyEffect -/

@[simp] theorem State.applyEffect_ctl (e : CoreEffect) : (State.applyEffect e s).ctl = s.ctl := rfl

@[simp] theorem State.applyEffect_dbg (e : CoreEffect) : (State.applyEffect e s).dbg = s.dbg := rfl

@[simp] theorem State.applyEffect_core_debugState (e : CoreEffect) :
    (State.applyEffect e s).core.debugState = s.core.debugState := rfl

@[simp] theorem State.applyEffect_core_haltReq (e : CoreEffect) :
    (State.applyEffect e s).core.haltReq = s.core.haltReq := rfl

@[simp] theorem State.applyEffect_core_restartReq (e : CoreEffect) :
    (State.applyEffect e s).core.restartReq = s.core.restartReq := rfl

@[simp] theorem State.applyEffect_core_inFlight (e : CoreEffect) :
    (State.applyEffect e s).core.inFlight = s.core.inFlight := rfl

@[simp] theorem State.applyEffect_core_entryIsa (e : CoreEffect) :
    (State.applyEffect e s).core.entryIsa = s.core.entryIsa := rfl

@[simp] theorem State.applyEffect_core_pendingAborts (e : CoreEffect) :
    (State.applyEffect e s).core.pendingAborts = s.core.pendingAborts := rfl

@[simp] theorem State.applyEffect_core_drained (e : CoreEffect) :
    (State.applyEffect e s).core.drained = s.core.drained := rfl

@[simp] theorem State.applyEffect_core_regs (e : CoreEffect) :
    (State.applyEffect e s).core.regs = e.regs := rfl

@[simp] theorem State.applyEffect_core_mem (e : CoreEffect) :
    (State.applyEffect e s).core.mem = s.core.mem.writeAll e.stores := rfl

@[simp] theorem State.applyEffect_pins (e : CoreEffect) : (State.applyEffect e s).pins = s.pins := rfl

@[simp] theorem State.applyEffect_cfg (e : CoreEffect) : (State.applyEffect e s).cfg = s.cfg := rfl

@[simp] theorem State.applyEffect_etm (e : CoreEffect) : (State.applyEffect e s).etm = s.etm := rfl

@[simp] theorem State.applyEffect_env (e : CoreEffect) : (State.applyEffect e s).env = s.env := rfl

/-! ### storeAt -/

@[simp] theorem State.storeAt_ctl (n : Nat) (a v : Word) : (State.storeAt n a v s).ctl = s.ctl := rfl

@[simp] theorem State.storeAt_dbg (n : Nat) (a v : Word) : (State.storeAt n a v s).dbg = s.dbg := rfl

@[simp] theorem State.storeAt_core_debugState (n : Nat) (a v : Word) :
    (State.storeAt n a v s).core.debugState = s.core.debugState := rfl

@[simp] theorem State.storeAt_core_haltReq (n : Nat) (a v : Word) :
    (State.storeAt n a v s).core.haltReq = s.core.haltReq := rfl

@[simp] theorem State.storeAt_core_restartReq (n : Nat) (a v : Word) :
    (State.storeAt n a v s).core.restartReq = s.core.restartReq := rfl

@[simp] theorem State.storeAt_core_inFlight (n : Nat) (a v : Word) :
    (State.storeAt n a v s).core.inFlight = s.core.inFlight := rfl

@[simp] theorem State.storeAt_core_entryIsa (n : Nat) (a v : Word) :
    (State.storeAt n a v s).core.entryIsa = s.core.entryIsa := rfl

@[simp] theorem State.storeAt_core_pendingAborts (n : Nat) (a v : Word) :
    (State.storeAt n a v s).core.pendingAborts = s.core.pendingAborts := rfl

@[simp] theorem State.storeAt_core_drained (n : Nat) (a v : Word) :
    (State.storeAt n a v s).core.drained = s.core.drained := rfl

@[simp] theorem State.storeAt_core_regs (n : Nat) (a v : Word) :
    (State.storeAt n a v s).core.regs = s.core.regs := rfl

@[simp] theorem State.storeAt_core_mem (n : Nat) (a v : Word) :
    (State.storeAt n a v s).core.mem = s.core.mem.writeAll (storeBytes s.core.regs.bigEndian n a v) := rfl

@[simp] theorem State.storeAt_pins (n : Nat) (a v : Word) : (State.storeAt n a v s).pins = s.pins := rfl

@[simp] theorem State.storeAt_cfg (n : Nat) (a v : Word) : (State.storeAt n a v s).cfg = s.cfg := rfl

@[simp] theorem State.storeAt_etm (n : Nat) (a v : Word) : (State.storeAt n a v s).etm = s.etm := rfl

@[simp] theorem State.storeAt_env (n : Nat) (a v : Word) : (State.storeAt n a v s).env = s.env := rfl

/-! ### setCoproc -/

@[simp] theorem State.setCoproc_ctl (c : CoprocState) :
    (State.setCoproc c s).ctl = s.ctl := rfl

@[simp] theorem State.setCoproc_pins (c : CoprocState) :
    (State.setCoproc c s).pins = s.pins := rfl

@[simp] theorem State.setCoproc_cfg (c : CoprocState) :
    (State.setCoproc c s).cfg = s.cfg := rfl

@[simp] theorem State.setCoproc_etm (c : CoprocState) :
    (State.setCoproc c s).etm = s.etm := rfl

@[simp] theorem State.setCoproc_env (c : CoprocState) :
    (State.setCoproc c s).env = s.env := rfl

@[simp] theorem State.setCoproc_dbg_dscrBits (c : CoprocState) :
    (State.setCoproc c s).dbg.dscrBits = s.dbg.dscrBits := rfl

@[simp] theorem State.setCoproc_dbg_coreRestarted (c : CoprocState) :
    (State.setCoproc c s).dbg.coreRestarted = s.dbg.coreRestarted := rfl

@[simp] theorem State.setCoproc_dbg_itr (c : CoprocState) :
    (State.setCoproc c s).dbg.itr = s.dbg.itr := rfl

@[simp] theorem State.setCoproc_dbg_instCompl (c : CoprocState) :
    (State.setCoproc c s).dbg.instCompl = s.dbg.instCompl := rfl

@[simp] theorem State.setCoproc_dbg_rdtr (c : CoprocState) :
    (State.setCoproc c s).dbg.rdtr = s.dbg.rdtr := rfl

@[simp] theorem State.setCoproc_dbg_rdtrEmpty (c : CoprocState) :
    (State.setCoproc c s).dbg.rdtrEmpty = s.dbg.rdtrEmpty := rfl

@[simp] theorem State.setCoproc_dbg_wdtr (c : CoprocState) :
    (State.setCoproc c s).dbg.wdtr = s.dbg.wdtr := rfl

@[simp] theorem State.setCoproc_dbg_wdtrFull (c : CoprocState) :
    (State.setCoproc c s).dbg.wdtrFull = s.dbg.wdtrFull := rfl

@[simp] theorem State.setCoproc_dbg_req (c : CoprocState) :
    (State.setCoproc c s).dbg.req = s.dbg.req := rfl

@[simp] theorem State.setCoproc_dbg_rdData (c : CoprocState) :
    (State.setCoproc c s).dbg.rdData = s.dbg.rdData := rfl

@[simp] theorem State.setCoproc_dbg_vcr (c : CoprocState) :
    (State.setCoproc c s).dbg.vcr = c.vcr := rfl

@[simp] theorem State.setCoproc_dbg_bvr (c : CoprocState) :
    (State.setCoproc c s).dbg.bvr = c.bvr := rfl

@[simp] theorem State.setCoproc_dbg_bcr (c : CoprocState) :
    (State.setCoproc c s).dbg.bcr = c.bcr := rfl

@[simp] theorem State.setCoproc_dbg_wvr (c : CoprocState) :
    (State.setCoproc c s).dbg.wvr = c.wvr := rfl

@[simp] theorem State.setCoproc_dbg_wcr (c : CoprocState) :
    (State.setCoproc c s).dbg.wcr = c.wcr := rfl

@[simp] theorem State.setCoproc_core_debugState (c : CoprocState) :
    (State.setCoproc c s).core.debugState = s.core.debugState := rfl

@[simp] theorem State.setCoproc_core_haltReq (c : CoprocState) :
    (State.setCoproc c s).core.haltReq = s.core.haltReq := rfl

@[simp] theorem State.setCoproc_core_restartReq (c : CoprocState) :
    (State.setCoproc c s).core.restartReq = s.core.restartReq := rfl

@[simp] theorem State.setCoproc_core_inFlight (c : CoprocState) :
    (State.setCoproc c s).core.inFlight = s.core.inFlight := rfl

@[simp] theorem State.setCoproc_core_entryIsa (c : CoprocState) :
    (State.setCoproc c s).core.entryIsa = s.core.entryIsa := rfl

@[simp] theorem State.setCoproc_core_pendingAborts (c : CoprocState) :
    (State.setCoproc c s).core.pendingAborts = s.core.pendingAborts := rfl

@[simp] theorem State.setCoproc_core_mem (c : CoprocState) :
    (State.setCoproc c s).core.mem = s.core.mem := rfl

@[simp] theorem State.setCoproc_core_drained (c : CoprocState) :
    (State.setCoproc c s).core.drained = false := rfl

@[simp] theorem State.setCoproc_core_regs_gpr (c : CoprocState) :
    (State.setCoproc c s).core.regs.gpr = s.core.regs.gpr := rfl

@[simp] theorem State.setCoproc_core_regs_spsr (c : CoprocState) :
    (State.setCoproc c s).core.regs.spsr = s.core.regs.spsr := rfl

@[simp] theorem State.setCoproc_core_regs_pc (c : CoprocState) :
    (State.setCoproc c s).core.regs.pc = s.core.regs.pc := rfl

@[simp] theorem State.setCoproc_core_regs_cpsr (c : CoprocState) :
    (State.setCoproc c s).core.regs.cpsr = s.core.regs.cpsr := rfl

@[simp] theorem State.setCoproc_core_regs_committed (c : CoprocState) :
    (State.setCoproc c s).core.regs.committed = s.core.regs.committed := rfl

@[simp] theorem State.setCoproc_core_regs_committedIsa (c : CoprocState) :
    (State.setCoproc c s).core.regs.committedIsa = s.core.regs.committedIsa := rfl

@[simp] theorem State.setCoproc_core_regs_coproc (c : CoprocState) :
    (State.setCoproc c s).core.regs.coproc = c.coproc := rfl

@[simp] theorem State.setCoproc_core_regs_nonSecure (c : CoprocState) :
    (State.setCoproc c s).core.regs.nonSecure = c.nonSecure := rfl

@[simp] theorem State.setCoproc_core_regs_suiden (c : CoprocState) :
    (State.setCoproc c s).core.regs.suiden = c.suiden := rfl

@[simp] theorem State.setCoproc_core_regs_bigEndian (c : CoprocState) :
    (State.setCoproc c s).core.regs.bigEndian = c.bigEndian := rfl

/-! ### tapReset -/

@[simp] theorem State.tapReset_dbg : s.tapReset.dbg = s.dbg := rfl

@[simp] theorem State.tapReset_core : s.tapReset.core = s.core := rfl

@[simp] theorem State.tapReset_pins : s.tapReset.pins = s.pins := rfl

@[simp] theorem State.tapReset_cfg : s.tapReset.cfg = s.cfg := rfl

@[simp] theorem State.tapReset_etm : s.tapReset.etm = s.etm := rfl

@[simp] theorem State.tapReset_ctl_tap : s.tapReset.ctl.tap = s.ctl.tap := rfl

@[simp] theorem State.tapReset_ctl_ir : s.tapReset.ctl.ir = 0b11110 := rfl

@[simp] theorem State.tapReset_ctl_screg : s.tapReset.ctl.screg = 0b00011 := rfl

@[simp] theorem State.tapReset_ctl_tdo : s.tapReset.ctl.tdo = s.ctl.tdo := rfl

@[simp] theorem State.tapReset_env_inputs : s.tapReset.env.inputs = s.env.inputs := rfl

/-! ### heldInReset -/

@[simp] theorem State.heldInReset_dbg : s.heldInReset.dbg = s.dbg := rfl

@[simp] theorem State.heldInReset_core : s.heldInReset.core = s.core := rfl

@[simp] theorem State.heldInReset_pins : s.heldInReset.pins = s.pins := rfl

@[simp] theorem State.heldInReset_cfg : s.heldInReset.cfg = s.cfg := rfl

@[simp] theorem State.heldInReset_etm : s.heldInReset.etm = s.etm := rfl

@[simp] theorem State.heldInReset_ctl_tap : s.heldInReset.ctl.tap = .testLogicReset := rfl

@[simp] theorem State.heldInReset_ctl_ir : s.heldInReset.ctl.ir = 0b11110 := rfl

@[simp] theorem State.heldInReset_ctl_screg : s.heldInReset.ctl.screg = 0b00011 := rfl

@[simp] theorem State.heldInReset_ctl_tdo : s.heldInReset.ctl.tdo = none := rfl

@[simp] theorem State.heldInReset_env_inputs : s.heldInReset.env.inputs = s.env.inputs := rfl

end Sys2Proof.Machine
end

