-- ==== Sys2Proof/Laws/Ops.lean ====
section
/-! SUPPORT. What each shared operation can do, said once: a later proof cites these lemmas and does not
unfold the operation. -/

namespace Sys2Proof.Machine

/-! ### Sequencing -/

@[simp] theorem andThen_next {α β : Type} (a : α) (f : α → Result β) :
    andThen (.next a) f = f a := rfl

@[simp] theorem andThen_refused {α β : Type} (r : Refusal) (f : α → Result β) :
    andThen (.refused r) f = .refused r := rfl

/-- A sequence goes on exactly if both parts do. -/
theorem andThen_eq_next {α β : Type} {o : Result α} {f : α → Result β} {b : β} :
    andThen o f = .next b ↔ ∃ a, o = .next a ∧ f a = .next b := by
  cases o <;> simp [andThen]

/-! ### Open values -/

theorem State.drawAt_supplied (s : State) {k : Nat} {d : BitVec 40} (h : s.env.draws[k]? = some d) :
    s.drawAt k = d := by simp [State.drawAt, h]

/-! ### The DSCR -/

theorem getLsbD_flagBit (n k : Nat) (b : Bool) :
    (flagBit n b).getLsbD k = (b && decide (n < 32) && decide (n = k)) := by
  cases b <;> simp [flagBit, BitVec.getLsbD_twoPow]

/-- A bit of a word after one bit is written. -/
theorem getLsbD_setBit (n k : Nat) (b : Bool) (w : Word) (hn : n < 32) :
    (setBit n b w).getLsbD k = if n = k then b else w.getLsbD k := by
  by_cases h : n = k
  · subst h
    simp only [setBit, getLsbD_flagBit, BitVec.getLsbD_twoPow, BitVec.getLsbD_or,
      BitVec.getLsbD_and, BitVec.getLsbD_not, hn, decide_true, Bool.and_true, Bool.not_true,
      Bool.and_false, Bool.false_or, if_true]
  · simp only [setBit, getLsbD_flagBit, BitVec.getLsbD_twoPow, BitVec.getLsbD_or,
      BitVec.getLsbD_and, BitVec.getLsbD_not, h, hn, decide_true, decide_false, Bool.and_false,
      Bool.or_false, Bool.not_false, Bool.and_true, if_false]
    by_cases hk : k < 32
    · simp [hk]
    · simp [hk, BitVec.getLsbD_of_ge w k (by omega)]

/-- Setting a bit is an OR with it. -/
theorem setBit_true {n : Nat} (w : Word) (hn : n < 32) :
    setBit n true w = w ||| BitVec.twoPow 32 n := by
  apply BitVec.eq_of_getLsbD_eq
  intro k hk
  rw [getLsbD_setBit _ _ _ _ hn, BitVec.getLsbD_or, BitVec.getLsbD_twoPow]
  by_cases e : n = k
  · simp [e, hk]
  · simp [e]

/-- DSCR[13] does not change if another bit is written. -/
@[simp] theorem State.setDscrBit_execEnabled (s : State) {n : Nat} (b : Bool) (hn : n < 32)
    (h : n ≠ 13) : (s.setDscrBit n b).execEnabled = s.execEnabled := by
  simp only [State.execEnabled, State.setDscrBit, getLsbD_setBit _ _ _ _ hn, h, if_false]

/-- DSCR[6] after a bit is written. -/
@[simp] theorem State.setDscrBit_sticky (s : State) {n : Nat} (b : Bool) (hn : n < 32) :
    (s.setDscrBit n b).stickyPreciseAbort = if n = 6 then b else s.stickyPreciseAbort := by
  simp only [State.stickyPreciseAbort, State.setDscrBit, getLsbD_setBit _ _ _ _ hn]

/-- Writing a stored bit keeps the view bits out of storage. -/
theorem setBit_view {n : Nat} {b : Bool} {w : Word} (h : w &&& 0x60000003 = 0)
    (hn : n ∉ [0, 1, 29, 30]) (h32 : n < 32) : setBit n b w &&& 0x60000003 = 0 := by
  apply BitVec.eq_of_getLsbD_eq
  intro k hk
  have hw := congrArg (fun v : Word => v.getLsbD k) h
  simp only [BitVec.getLsbD_and, getLsbD_setBit _ _ _ _ h32] at hw ⊢
  rw [show BitVec.getLsbD (0 : Word) k = false by simp]
  by_cases e : n = k
  · subst e
    have hz : (0x60000003 : Word).getLsbD n = false := by
      revert hn hk
      have : ∀ m : Fin 32, m.val ∉ [0, 1, 29, 30] → (0x60000003 : Word).getLsbD m.val = false := by
        decide
      exact fun hn hk => this ⟨n, hk⟩ hn
    rw [hz, Bool.and_false]
  · simpa [e] using hw

/-- The write mask holds DSCR[13], and no sticky flag and no view bit. -/
theorem tapWriteMask_bit13 (p : Params) : (tapWriteMask p).getLsbD 13 = true := by
  simp [tapWriteMask]

theorem tapWriteMask_bit6 (p : Params) : (tapWriteMask p).getLsbD 6 = false := by
  simp [tapWriteMask]

theorem tapWriteMask_view (p : Params) : tapWriteMask p &&& 0x60000003 = 0 := by
  simp only [tapWriteMask, BitVec.and_assoc]
  have : (~~~(0x600001C3 : Word)) &&& 0x60000003 = 0 := by decide
  rw [this]; exact BitVec.and_zero

/-! ### Shifting -/

/-- A shift drops bit 0 and puts DBGTDI at the top; `m` is the length less one. -/
theorem shiftIn_append {m : Nat} (tdi : Bool) (v : BitVec (1 + m)) :
    shiftIn tdi v = BitVec.ofBool tdi ++ v.extractLsb' 1 m := by
  apply BitVec.eq_of_getLsbD_eq
  intro k hk
  simp only [shiftIn, BitVec.getLsbD_extractLsb', BitVec.getLsbD_append, hk, decide_true,
    Bool.true_and]
  by_cases hm : k < m
  · rw [if_pos (by omega), if_pos hm]; simp [hm]
  · rw [if_neg (by omega), if_neg hm]; congr 1; omega

/-! ### Entry to Debug state, restart, halt -/

/-- EDBGRQ can do one thing: make a Halt request outside Debug state. -/
theorem State.applyEdbgrq_cases (s : State) :
    (s.applyEdbgrq = s ∧
      ¬(s.pins.edbgrq = true ∧ s.pins.dbgen = true ∧ s.core.debugState = false)) ∨
    (s.applyEdbgrq = { s with core.haltReq := true } ∧
      s.pins.edbgrq = true ∧ s.pins.dbgen = true ∧ s.core.debugState = false) := by
  unfold State.applyEdbgrq
  split
  · next h => exact .inr ⟨rfl, by simpa [and_assoc] using h⟩
  · next h => exact .inl ⟨rfl, by simpa [and_assoc] using h⟩

/-- A restart goes on only with DSCR[13] = 0. -/
theorem State.leaveDebugState_eq_next {s t : State} (h : s.leaveDebugState = .next t) :
    s.execEnabled = false ∧
    t = State.applyEdbgrq { s with
      core.debugState := false, core.restartReq := false, core.drained := false
      dbg.coreRestarted := true } := by
  unfold State.leaveDebugState at h
  split at h
  · cases h
  · next he => exact ⟨by simpa using he, by simpa using h.symm⟩

theorem State.haltAction_cases (s : State) :
    (s.haltAction = .next s ∧ (s.core.debugState = true ∨ s.pins.dbgen = false)) ∨
    (s.haltAction = .next { s with core.haltReq := true } ∧
      s.core.debugState = false ∧ s.pins.dbgen = true) := by
  unfold State.haltAction
  split
  · exact .inl ⟨rfl, .inl ‹_›⟩
  · split
    · next h1 h2 => exact .inr ⟨rfl, by simpa using h1, h2⟩
    · next h1 h2 => exact .inl ⟨rfl, .inr (by simpa using h2)⟩

theorem State.restartAction_eq_next {s t : State} (h : s.restartAction = .next t) :
    s.core.debugState = true ∧
    t = { s with core.restartReq := true, dbg.coreRestarted := false } := by
  unfold State.restartAction at h
  split at h
  · exact ⟨‹_›, by simpa using h.symm⟩
  · cases h

/-! ### Issue -/

/-- What entry to Run-Test/Idle can do with scan chain 4 or 5 selected, if it goes on. -/
theorem State.tryIssue_eq_next {s t : State} (h : s.tryIssue = .next t) :
    t = s ∨
    (t = s.issue ∧ s.core.debugState = true ∧ s.execEnabled = true ∧ s.ctl.ready = true ∧
      s.stickyPreciseAbort = false ∧ s.dbg.instCompl = true) := by
  unfold State.tryIssue at h
  split at h
  · exact .inl (by simpa using h.symm)
  · split at h
    · exact .inl (by simpa using h.symm)
    · split at h
      · exact .inl (by simpa using h.symm)
      · split at h
        · exact .inl (by simpa using h.symm)
        · split at h
          · cases h
          · refine .inr ⟨by simpa using h.symm, ?_, ?_, ?_, ?_, ?_⟩ <;> simp_all

/-- With every condition met the ITR is issued (42_debug_execution.md rules R190, R191). -/
theorem State.tryIssue_issues {s : State} (h1 : s.core.debugState = true)
    (h2 : s.execEnabled = true) (h3 : s.ctl.ready = true) (h4 : s.stickyPreciseAbort = false)
    (h5 : s.dbg.instCompl = true) : s.tryIssue = .next s.issue := by
  unfold State.tryIssue
  rw [if_neg (by simp [h1]), if_neg (by simp [h2]), if_neg (by simp [h3]), if_neg (by simp [h4]),
    if_neg (by simp [h5])]

/-- With a condition of rule R190 failing nothing happens. -/
theorem State.tryIssue_skips {s : State}
    (h : s.core.debugState = false ∨ s.execEnabled = false ∨ s.ctl.ready = false ∨
      s.stickyPreciseAbort = true) : s.tryIssue = .next s := by
  unfold State.tryIssue
  by_cases h1 : (!s.core.debugState) = true
  · rw [if_pos h1]
  · by_cases h2 : (!s.execEnabled) = true
    · rw [if_neg h1, if_pos h2]
    · by_cases h3 : (!s.ctl.ready) = true
      · rw [if_neg h1, if_neg h2, if_pos h3]
      · rw [if_neg h1, if_neg h2, if_neg h3, if_pos]
        simp_all

/-! ### Scan chain 7 requests -/

/-- What placing a request can do, if it goes on. -/
theorem State.placeRequest_eq_next {a : BitVec 7} {d : Word} {w : Bool} {s t : State}
    (h : s.placeRequest a d w = .next t) :
    t = s ∨
    (t = { s with dbg.req := some ⟨a, d, w⟩, dbg.rdData := none } ∧ s.ctl.reqReady = true ∧
      a ≠ 0 ∧ reservedAddress a = false) := by
  unfold State.placeRequest at h
  split at h
  · exact .inl (by simpa using h.symm)
  · split at h
    · exact .inl (by simpa using h.symm)
    · split at h
      · cases h
      · refine .inr ⟨by simpa using h.symm, ?_, ?_, ?_⟩ <;> simp_all

/-! ### Scan chain 1 -/

/-- What an update of scan chain 1 can do, if it goes on. -/
theorem State.update1_eq_next {insn : ScanInsn} {s t : State} (h : s.update1 insn = .next t) :
    (insn = .intest ∧ t = s) ∨
    (insn = .extest ∧
      t = { s with dbg.dscrBits :=
        (s.dbg.dscrBits &&& ~~~tapWriteMask s.cfg) ||| (s.ctl.s1 &&& tapWriteMask s.cfg) } ∧
      (s.ctl.s1.getLsbD 13 = true → s.execEnabled = true ∨ s.core.debugState = true) ∧
      (s.ctl.s1.getLsbD 13 = false → s.execEnabled = true → s.dbg.instCompl = true)) := by
  cases insn with
  | intest => exact .inl ⟨rfl, by simpa [State.update1] using h.symm⟩
  | extest =>
    simp only [State.update1] at h
    split at h
    · cases h
    · split at h
      · cases h
      · next h1 h2 =>
        refine .inr ⟨rfl, by simpa using h.symm, ?_, ?_⟩
        · intro e; simp only [e, Bool.true_and, Bool.and_eq_true, Bool.not_eq_true'] at h1
          by_cases h3 : s.execEnabled = true
          · exact .inl h3
          · right; simp_all
        · intro e e2; simp_all

/-! ### Execution of an issued word -/

/-- What executing an ARM word leaves alone, whatever the word: a word may change the VCR
and the breakpoint and watchpoint registers (assumption log 54), so they are not named. -/
structure ArmFrame (s t : State) : Prop where
  ctl : t.ctl = s.ctl
  pins : t.pins = s.pins
  cfg : t.cfg = s.cfg
  etm : t.etm = s.etm
  env : t.env = s.env
  coreRestarted : t.dbg.coreRestarted = s.dbg.coreRestarted
  itr : t.dbg.itr = s.dbg.itr
  instCompl : t.dbg.instCompl = s.dbg.instCompl
  rdtr : t.dbg.rdtr = s.dbg.rdtr
  req : t.dbg.req = s.dbg.req
  rdData : t.dbg.rdData = s.dbg.rdData
  dscr : t.dbg.dscrBits = s.dbg.dscrBits ∨ t.dbg.dscrBits = setBit 7 true s.dbg.dscrBits
  debugState : t.core.debugState = s.core.debugState
  haltReq : t.core.haltReq = s.core.haltReq
  restartReq : t.core.restartReq = s.core.restartReq
  inFlight : t.core.inFlight = s.core.inFlight
  entryIsa : t.core.entryIsa = s.core.entryIsa
  memory : Memory.wf s.core.mem = true → Memory.wf t.core.mem = true

theorem ArmFrame.refl (s : State) : ArmFrame s s := by
  constructor <;> first | rfl | exact .inl rfl | exact id

/-- The forms of update an executed word makes of registers, memory and the DTRs. -/
theorem ArmFrame.of_update (s : State) (r : CoreRegs) (m : Memory) (w : Word) (f e d : Bool)
    (hm : Memory.wf s.core.mem = true → Memory.wf m = true) :
    ArmFrame s { s with
      core.regs := r, core.mem := m, core.drained := d
      dbg.wdtr := w, dbg.wdtrFull := f, dbg.rdtrEmpty := e } := by
  constructor <;> first | rfl | exact .inl rfl | exact hm

theorem State.openExec_frame (w : Word) (abort : Bool) (s : State) :
    ArmFrame s (s.openExec w abort).1 := by
  simp only [State.openExec]
  split
  · split <;> split <;> constructor <;>
      first | rfl | exact .inl rfl | exact Memory.wf_writeAll _
  · exact ArmFrame.of_update s _ _ _ _ _ _ id

theorem State.storeAt_frame (n : Nat) (a v : Word) (s : State) : ArmFrame s (s.storeAt n a v) :=
  ArmFrame.of_update s _ _ _ _ _ _ (Memory.wf_writeAll _)

theorem State.setRegs_frame (c : CoreRegs) (s : State) : ArmFrame s (s.setRegs c) :=
  ArmFrame.of_update s _ _ _ _ _ _ id

theorem State.writeWdtr_frame (v : Word) (s : State) : ArmFrame s (s.writeWdtr v) :=
  ArmFrame.of_update s _ _ _ _ _ _ id

theorem State.readRdtr_frame (s : State) : ArmFrame s s.readRdtr :=
  ArmFrame.of_update s _ _ _ _ _ _ id

theorem State.rdtrToFlags_frame (s : State) : ArmFrame s s.rdtrToFlags :=
  ArmFrame.of_update s _ _ _ _ _ _ id

theorem State.nopTakesAborts_frame (s : State) : ArmFrame s s.nopTakesAborts := by
  unfold State.nopTakesAborts
  split
  · constructor <;> first | rfl | exact .inr rfl | exact id
  · exact ArmFrame.refl s

theorem State.setCoproc_frame (c : CoprocState) (s : State) : ArmFrame s (s.setCoproc c) := by
  constructor <;> first | rfl | exact .inl rfl | exact id

/-- The composition of two executions keeps what both keep, if the first does not touch DSCR[7]. -/
theorem ArmFrame.trans {s t u : State} (h : ArmFrame s t) (k : ArmFrame t u)
    (hd : t.dbg.dscrBits = s.dbg.dscrBits) : ArmFrame s u where
  ctl := k.ctl.trans h.ctl
  pins := k.pins.trans h.pins
  cfg := k.cfg.trans h.cfg
  etm := k.etm.trans h.etm
  env := k.env.trans h.env
  coreRestarted := k.coreRestarted.trans h.coreRestarted
  itr := k.itr.trans h.itr
  instCompl := k.instCompl.trans h.instCompl
  rdtr := k.rdtr.trans h.rdtr
  req := k.req.trans h.req
  rdData := k.rdData.trans h.rdData
  dscr := by rw [← hd]; exact k.dscr
  debugState := k.debugState.trans h.debugState
  haltReq := k.haltReq.trans h.haltReq
  restartReq := k.restartReq.trans h.restartReq
  inFlight := k.inFlight.trans h.inFlight
  entryIsa := k.entryIsa.trans h.entryIsa
  memory := fun x => k.memory (h.memory x)

/-- An aligned data access that is not aborted has its effect and moves R0 on. -/
theorem State.access_done {w size : Word} {f : Word → State → State} {s : State}
    (h : s.core.regs.r0 &&& (size - 1) = 0) :
    s.access w false size f =
      (State.setRegs
        ((f s.core.regs.r0 { s with core.drained := false }).core.regs.setR0
          (s.core.regs.r0 + size))
        (f s.core.regs.r0 { s with core.drained := false }), .done) := by
  simp only [State.access, h, if_true, Bool.false_eq_true, if_false]

/-- An aligned data access that is aborted has no effect, but that an imprecise abort may follow. -/
theorem State.access_abort {w size : Word} {f : Word → State → State} {s : State}
    (h : s.core.regs.r0 &&& (size - 1) = 0) :
    s.access w true size f = ({ s with core.drained := false }, .preciseAbort) := by
  simp only [State.access, h, if_true]

/-- An open word leaves the stored DSCR bits alone; its flag is set when it completes. -/
theorem State.openExec_dscrBits (w : Word) (abort : Bool) (s : State) :
    (s.openExec w abort).1.dbg.dscrBits = s.dbg.dscrBits := by
  simp only [State.openExec]
  split
  · split <;> split <;> rfl
  · rfl

/-- An open form of a named word leaves alone what an open word does, and the PC
(10_state.md rule R52). -/
theorem State.openForm_frame (w : Word) (abort : Bool) (s : State) :
    ArmFrame s (s.openForm w abort).1 ∧ (s.openForm w abort).1.core.regs.pc = s.core.regs.pc :=
  ⟨(State.openExec_frame w abort s).trans (State.setRegs_frame _ _) (State.openExec_dscrBits w abort s),
    rfl⟩

/-- A coprocessor read: Undefined, or R0 takes a value and the coprocessors change. -/
theorem State.coprocToR0_cases (w : Word) (s : State) :
    (Config.coprocRead w s.coprocView = none ∧
      s.coprocToR0 w = ({ s with core.drained := false }, .undefined)) ∨
    (∃ v c, Config.coprocRead w s.coprocView = some (v, c) ∧
      s.coprocToR0 w =
        ((s.setCoproc c).setRegs ((s.setCoproc c).core.regs.setR0 v), .done)) := by
  simp only [State.coprocToR0]
  split
  · next v c h => exact .inr ⟨v, c, h, rfl⟩
  · next h => exact .inl ⟨h, rfl⟩

/-- A coprocessor write: Undefined, or the coprocessors change. -/
theorem State.r0ToCoproc_cases (w : Word) (s : State) :
    (Config.coprocWrite w s.coprocView s.core.regs.r0 = none ∧
      s.r0ToCoproc w = ({ s with core.drained := false }, .undefined)) ∨
    (∃ c, Config.coprocWrite w s.coprocView s.core.regs.r0 = some c ∧
      s.r0ToCoproc w = (s.setCoproc c, .done)) := by
  simp only [State.r0ToCoproc]
  split
  · next c h => exact .inr ⟨c, h, rfl⟩
  · next h => exact .inl ⟨h, rfl⟩

/-- When rule R198 lets the CPSR take a value. -/
theorem State.mayWriteCpsr_iff {v : Word} {s : State} :
    s.mayWriteCpsr v = true ↔
      (s.core.regs.nonSecure = true ∨ s.pins.spiden = true ∨ s.core.regs.userMode = false) ∧
      (cpsrMode v = cpsrMode s.core.regs.cpsr ∨
        s.permitsMode s.cfg.modePermitted (cpsrMode v) = true) := by
  simp [State.mayWriteCpsr, or_assoc]

/-- `MSR CPSR,R0` writes the CPSR where rule R198 lets it take the value, and is an open form else. -/
theorem State.writeCpsr_cases (w fields : Word) (abort : Bool) (s : State) :
    let v := (s.core.regs.cpsr &&& ~~~fields) ||| (s.core.regs.r0 &&& fields)
    (s.mayWriteCpsr v = true ∧
      s.writeCpsr w abort fields = (s.setRegs { s.core.regs with cpsr := v }, .done)) ∨
    (s.mayWriteCpsr v = false ∧ s.writeCpsr w abort fields = s.openForm w abort) := by
  simp only [State.writeCpsr]
  split
  · next h => exact .inl ⟨h, rfl⟩
  · next h => exact .inr ⟨by simpa using h, rfl⟩

/-- What `MSR CPSR,R0` does where rule R198 lets it be written. -/
theorem State.writeCpsr_done {w fields : Word} {abort : Bool} {s : State}
    (h : s.mayWriteCpsr ((s.core.regs.cpsr &&& ~~~fields) ||| (s.core.regs.r0 &&& fields)) = true) :
    s.writeCpsr w abort fields =
      (s.setRegs { s.core.regs with
        cpsr := (s.core.regs.cpsr &&& ~~~fields) ||| (s.core.regs.r0 &&& fields) }, .done) := by
  simp only [State.writeCpsr, h, if_true]

/-- A data access changes what its effect changes, and R0. -/
theorem State.access_frame (w : Word) (abort : Bool) (size : Word) (f : Word → State → State)
    (s : State)
    (hf : ∀ a t, ArmFrame t (f a t) ∧ (f a t).dbg.dscrBits = t.dbg.dscrBits) :
    ArmFrame s (s.access w abort size f).1 := by
  simp only [State.access]
  split
  · split
    · exact ArmFrame.of_update s _ _ _ _ _ _ id
    · have h0 : ArmFrame s { s with core.drained := false } :=
        ArmFrame.of_update s _ _ _ _ _ _ id
      have h1 := hf s.core.regs.r0 { s with core.drained := false }
      exact (h0.trans h1.1 rfl).trans (State.setRegs_frame _ _) h1.2
  · exact (State.openForm_frame w abort s).1

/-- What executing an issued word leaves alone, whatever the word. -/
theorem State.armExec_frame (w : Word) (abort : Bool) (s : State) :
    ArmFrame s (s.armExec w abort).1 := by
  unfold State.armExec
  split
  · split
    · exact ArmFrame.refl s
    · split
      · exact State.writeWdtr_frame _ s
      · exact (State.openForm_frame w abort s).1
  · split
    · exact State.rdtrToFlags_frame s
    · split
      · exact ArmFrame.of_update s _ _ _ _ _ _ id
      · exact (State.openForm_frame w abort s).1
  · split
    · exact State.setRegs_frame _ s
    · exact (State.openForm_frame w abort s).1
  · exact State.access_frame w abort 4 _ s fun a t => ⟨State.writeWdtr_frame _ t, rfl⟩
  · exact State.access_frame w abort 4 _ s fun a t =>
      ⟨ArmFrame.of_update t _ _ _ _ _ _ (Memory.wf_writeAll _), rfl⟩
  · exact State.setRegs_frame _ s
  · split
    · exact State.setRegs_frame _ s
    · exact (State.openForm_frame w abort s).1
  · rcases State.writeCpsr_cases w _ abort s with ⟨_, h⟩ | ⟨_, h⟩ <;> rw [h]
    · exact State.setRegs_frame _ s
    · exact (State.openForm_frame w abort s).1
  · split
    · exact State.setRegs_frame _ s
    · exact (State.openForm_frame w abort s).1
  · exact State.setRegs_frame _ s
  · exact State.setRegs_frame _ s
  · exact State.access_frame w abort 2 _ s fun a t => ⟨State.setRegs_frame _ t, rfl⟩
  · exact State.access_frame w abort 1 _ s fun a t => ⟨State.setRegs_frame _ t, rfl⟩
  · exact State.access_frame w abort 2 _ s fun a t => ⟨State.storeAt_frame _ _ _ t, rfl⟩
  · exact State.access_frame w abort 1 _ s fun a t => ⟨State.storeAt_frame _ _ _ t, rfl⟩
  · exact ArmFrame.of_update s _ _ _ _ _ _ id
  · rcases State.coprocToR0_cases w s with ⟨_, h⟩ | ⟨v, c, _, h⟩ <;> rw [h]
    · exact ArmFrame.of_update s _ _ _ _ _ _ id
    · exact (State.setCoproc_frame c s).trans (State.setRegs_frame _ _) rfl
  · rcases State.r0ToCoproc_cases w s with ⟨_, h⟩ | ⟨c, _, h⟩ <;> rw [h]
    · exact ArmFrame.of_update s _ _ _ _ _ _ id
    · exact State.setCoproc_frame c s
  · split
    · exact State.nopTakesAborts_frame s
    · exact State.openExec_frame w abort s

/-- What an access of the DCC by running software leaves alone. -/
theorem State.softwareDccStep_frame (op : DccOp) (abort : Bool) (s : State) :
    ArmFrame s (s.softwareDccStep op abort) := by
  unfold State.softwareDccStep
  split
  · exact State.armExec_frame _ _ s
  · exact ArmFrame.refl s

/-- The flag of an exception: at most one of DSCR[6] and DSCR[8], in Debug state. -/
theorem State.recordOutcome_cases (o : CoreOutcome) (s : State) :
    State.recordOutcome o s = s ∨
    (State.recordOutcome o s = s.setDscrBit 6 true ∧ o = .preciseAbort ∧
      s.core.debugState = true ∧ s.execEnabled = true) ∨
    (State.recordOutcome o s = s.setDscrBit 8 true ∧ o = .undefined ∧ s.core.debugState = true) := by
  cases o with
  | done => exact .inl rfl
  | preciseAbort =>
    simp only [State.recordOutcome]
    split
    · next h => exact .inr (.inl ⟨rfl, trivial, by simpa using h⟩)
    · exact .inl rfl
  | undefined =>
    simp only [State.recordOutcome]
    split
    · next h => exact .inr (.inr ⟨rfl, trivial, h⟩)
    · exact .inl rfl

end Sys2Proof.Machine
end

