-- ==== Sys2Proof/Laws/Cycle.lean ====
section
/-! SUPPORT. What one TCK cycle can do, by where it finds the controller: one lemma per kind of cycle, for any
data register leg. -/

namespace Sys2Proof.Machine

variable {s t : State} {leg : Leg} {tms tdi : Bool} {rest : List Input}

@[simp] theorem State.afterCycle_dbg : (s.afterCycle tms rest).dbg = s.dbg := rfl

@[simp] theorem State.afterCycle_core : (s.afterCycle tms rest).core = s.core := rfl

@[simp] theorem State.afterCycle_pins : (s.afterCycle tms rest).pins = s.pins := rfl

@[simp] theorem State.afterCycle_cfg : (s.afterCycle tms rest).cfg = s.cfg := rfl

@[simp] theorem State.afterCycle_etm : (s.afterCycle tms rest).etm = s.etm := rfl

@[simp] theorem State.afterCycle_ir : (s.afterCycle tms rest).ctl.ir = s.ctl.ir := rfl

@[simp] theorem State.afterCycle_screg : (s.afterCycle tms rest).ctl.screg = s.ctl.screg := rfl

@[simp] theorem State.afterCycle_tap :
    (s.afterCycle tms rest).ctl.tap = s.ctl.tap.next tms := rfl

/-- DBGnTRST holds the controller reset, whatever instruction is current. -/
theorem tckCycle_trst (ht : s.pins.trst = true) (hi : s.env.inputs = .tck tms tdi :: rest) :
    tckCycle leg s = .next (State.heldInReset { s with env.inputs := rest }) := by
  simp [tckCycle, hi, runCycle, ht]

/-- With no TCK cycle due the controller stands still. -/
theorem tckCycle_idleInput (h : ∀ tms tdi rest, s.env.inputs ≠ .tck tms tdi :: rest) :
    tckCycle leg s = .next s := by
  unfold tckCycle
  split
  · exact absurd ‹_› (h _ _ _)
  · rfl

/-- A cycle, in the order of rule R22. -/
theorem tckCycle_due (h : s.due tms tdi rest) :
    tckCycle leg s =
      andThen (State.stateAction leg tdi { s with
        env.inputs := rest, ctl.tdo := State.dbgtdo leg { s with env.inputs := rest } })
        fun t => State.enterAction leg t.ctl.tap { t with ctl.tap := t.ctl.tap.next tms } := by
  simp [tckCycle, h.2, runCycle, h.1]

theorem State.stateAction_capture {u : State} (hu : u.ctl.tap = .captureDr) :
    State.stateAction leg tdi u = leg.capture { u with ctl.ready := u.dbg.instCompl } := by
  simp only [State.stateAction, hu]

theorem State.stateAction_shift {u : State} (hu : u.ctl.tap = .shiftDr) :
    State.stateAction leg tdi u = leg.shift tdi u := by
  simp only [State.stateAction, hu]

theorem State.dbgtdo_capture {u : State} (hu : u.ctl.tap = .captureDr) :
    State.dbgtdo leg u = none := by simp only [State.dbgtdo, hu]

theorem State.dbgtdo_shift {u : State} (hu : u.ctl.tap = .shiftDr) :
    State.dbgtdo leg u = some (leg.out u) := by simp only [State.dbgtdo, hu]

/-- A cycle in Capture-DR: `Ready` is loaded, and the leg's register captures. -/
theorem tckCycle_capture (h : s.atCapture tms tdi rest)
    (hc : leg.capture { s with
      env.inputs := rest, ctl.tdo := none, ctl.ready := s.dbg.instCompl } = .next t)
    (ht : t.ctl.tap = .captureDr) :
    tckCycle leg s = .next { t with ctl.tap := s.ctl.tap.next tms } := by
  rw [h.2]
  have h1 : State.dbgtdo leg { s with env.inputs := rest } = none := State.dbgtdo_capture h.2
  have h2 : State.stateAction leg tdi { s with env.inputs := rest, ctl.tdo := none } = .next t :=
    by rw [State.stateAction_capture (by exact h.2)]; exact hc
  rw [tckCycle_due h.1, h1, h2, andThen_next]
  simp only [State.enterAction, ht]
  cases tms <;> rfl

/-- A cycle in Capture-DR of a leg that refuses its capture. -/
theorem tckCycle_capture_refused {r : Refusal} (h : s.atCapture tms tdi rest)
    (hc : leg.capture { s with
      env.inputs := rest, ctl.tdo := none, ctl.ready := s.dbg.instCompl } = .refused r) :
    tckCycle leg s = .refused r := by
  have h1 : State.dbgtdo leg { s with env.inputs := rest } = none := State.dbgtdo_capture h.2
  have h2 : State.stateAction leg tdi { s with env.inputs := rest, ctl.tdo := none } = .refused r :=
    by rw [State.stateAction_capture (by exact h.2)]; exact hc
  rw [tckCycle_due h.1, h1, h2, andThen_refused]

/-- A cycle in Shift-DR: bit 0 of the leg's register is shown, and DBGTDI enters it. -/
theorem tckCycle_shift (h : s.atShift tms tdi rest)
    (hc : leg.shift tdi { s with
      env.inputs := rest, ctl.tdo := some (leg.out { s with env.inputs := rest }) } = .next t)
    (ht : t.ctl.tap = .shiftDr) :
    tckCycle leg s = .next { t with ctl.tap := s.ctl.tap.next tms } := by
  rw [h.2]
  have h1 : State.dbgtdo leg { s with env.inputs := rest } =
      some (leg.out { s with env.inputs := rest }) := State.dbgtdo_shift h.2
  have h2 : State.stateAction leg tdi { s with
      env.inputs := rest, ctl.tdo := some (leg.out { s with env.inputs := rest }) } = .next t :=
    by rw [State.stateAction_shift (by exact h.2)]; exact hc
  rw [tckCycle_due h.1, h1, h2, andThen_next]
  simp only [State.enterAction, ht]
  cases tms <;> rfl

/-- A cycle that enters Update-DR does the leg's update. -/
theorem tckCycle_update (h : s.entersUpdate tdi rest) :
    tckCycle leg s = leg.update (s.afterCycle true rest) := by
  rw [tckCycle_due h.1]
  rcases h.2 with ht | ht <;>
    simp only [State.stateAction, ht, State.dbgtdo, andThen_next, State.enterAction,
      State.afterCycle, TapState.next, if_true]

/-- A cycle that enters Run-Test/Idle from Update-DR or Update-IR does the leg's action there. -/
theorem tckCycle_idle (h : s.entersIdle tdi rest) :
    tckCycle leg s = leg.idle (s.afterCycle false rest) := by
  rw [tckCycle_due h.1]
  rcases h.2 with ht | ht <;>
    simp [State.stateAction, ht, State.dbgtdo, State.enterAction, State.afterCycle, TapState.next]

/-- Every data register leg leaves a cycle alone whose state has no action and which enters a state
without one. -/
theorem tckCycle_quiet (h : s.due tms tdi rest) (hq : s.ctl.tap.quiet tms = true) :
    tckCycle leg s = .next (s.afterCycle tms rest) := by
  rw [tckCycle_due h]
  revert hq
  cases ht : s.ctl.tap <;> cases tms <;>
    simp_all [State.stateAction, State.dbgtdo, State.enterAction, State.afterCycle, TapState.next,
      TapState.quiet]

end Sys2Proof.Machine
end

