-- ==== Sys2Proof/Laws/Chains.lean ====
section
/-! SUPPORT. The scan chain rows and the three instructions that connect a chain act through one leg. -/

namespace Sys2Proof.Machine

/-- Whichever of the two names a connected chain has, its meaning is one TCK cycle of the chain's leg. -/
theorem exec_connects {s : State} {i : Instr} {insn : ScanInsn} {c : BitVec 5}
    (h : s.connects i insn c) : exec i s = tckCycle (chainLeg insn c) s := by
  have row : ∀ d : BitVec 5, exec (decodeScreg d) s = tckCycle (legOf s.ctl.ir d) s := by
    intro d
    have hd : ∀ d : BitVec 5,
        (decodeScreg d = .chain0Didr ∧ d = 0) ∨ (decodeScreg d = .chain1Dscr ∧ d = 1) ∨
        (∃ l, decodeScreg d = .chain2To3 l ∧ d = (0b0001 : BitVec 4) ++ l) ∨
        (decodeScreg d = .chain4Itr ∧ d = 4) ∨ (decodeScreg d = .chain5Dtr ∧ d = 5) ∨
        (decodeScreg d = .chain6Etm ∧ d = 6) ∨ (decodeScreg d = .chain7DebugRegs ∧ d = 7) ∨
        (∃ l, decodeScreg d = .chain8To15 l ∧ d = (0b01 : BitVec 2) ++ l) ∨
        (∃ l, decodeScreg d = .chain16To31 l ∧ d = (0b1 : BitVec 1) ++ l) := by decide
    rcases hd d with ⟨h, e⟩ | ⟨h, e⟩ | ⟨l, h, e⟩ | ⟨h, e⟩ | ⟨h, e⟩ | ⟨h, e⟩ | ⟨h, e⟩ | ⟨l, h, e⟩ |
      ⟨l, h, e⟩ <;> rw [h, e] <;> rfl
  rcases h with ⟨hi, hs, rfl, rfl | rfl⟩ | ⟨hi, hs, rfl, rfl | rfl⟩ | ⟨hi, rfl, rfl, rfl | rfl⟩
  · subst hs; rfl
  · rw [row, hi]; rfl
  · subst hs; rfl
  · rw [row, hi]; rfl
  · rfl
  · show tckCycle (legOf s.ctl.ir 4) s = _
    rw [hi]; rfl

end Sys2Proof.Machine
end

