-- ==== Sys2Proof/Laws/Decode.lean ====
section
/-! SUPPORT. The frame of a scan chain 7 request and its three fields determine each other (30_encoding.md rule R113). -/

namespace Sys2Proof

@[simp] theorem requestAddress_frame (a : BitVec 7) (d : Word) (w : Bool) :
    requestAddress (requestFrame a d w) = a := by
  apply BitVec.eq_of_getLsbD_eq
  intro i hi
  simp only [requestAddress, requestFrame, BitVec.getLsbD_extractLsb', BitVec.getLsbD_append, hi,
    decide_true, Bool.true_and]
  rw [if_neg (by omega), if_neg (by omega)]
  congr 1
  omega

@[simp] theorem requestData_frame (a : BitVec 7) (d : Word) (w : Bool) :
    requestData (requestFrame a d w) = d := by
  apply BitVec.eq_of_getLsbD_eq
  intro i hi
  simp only [requestData, requestFrame, BitVec.getLsbD_extractLsb', BitVec.getLsbD_append, hi,
    decide_true, Bool.true_and]
  rw [if_neg (by omega), if_pos (by omega)]
  congr 1
  omega

@[simp] theorem requestWrite_frame (a : BitVec 7) (d : Word) (w : Bool) :
    requestWrite (requestFrame a d w) = w := by
  simp only [requestWrite, requestFrame, BitVec.getLsbD_append]
  cases w <;> simp

/-- The three fields make up the whole request. -/
theorem requestFrame_fields (r : BitVec 40) :
    requestFrame (requestAddress r) (requestData r) (requestWrite r) = r := by
  apply BitVec.eq_of_getLsbD_eq
  intro i hi
  simp only [requestAddress, requestData, requestWrite, requestFrame, BitVec.getLsbD_append,
    BitVec.getLsbD_extractLsb']
  by_cases h0 : i = 0
  · subst h0; simp
  · by_cases h1 : i < 33
    · simp [show ¬ i < 1 by omega, show i - 1 < 32 by omega, show 1 + (i - 1) = i by omega,
        -BitVec.getLsbD_eq_getElem]
    · simp [show ¬ i < 1 by omega, show ¬ i - 1 < 32 by omega, show i - 1 - 32 < 7 by omega,
        show 33 + (i - 1 - 32) = i by omega, -BitVec.getLsbD_eq_getElem]

/-- A decoded request is the row of its address. -/
theorem decode_requestFrame (a : BitVec 7) (d : Word) (w : Bool) :
    decode (.sc7req (requestFrame a d w)) = decodeAddress a d w := by
  simp [decode, decodeRequest]

/-- An address is one of 128 numerals. -/
theorem address_cases (a : BitVec 7) : ∃ n < 128, a = BitVec.ofNat 7 n :=
  ⟨a.toNat, a.isLt, by simp⟩

end Sys2Proof
end

