-- ==== Sys2Proof/Laws/Requests.lean ====
section
/-! SUPPORT. What a request row of scan chain 7 does on the cycle that enters Update-DR and on a step of the
request engine. -/

namespace Sys2Proof.Machine

variable {s : State} {tdi : Bool} {rest : List Input}

/-- A request row on the cycle that enters Update-DR. -/
theorem requestRow_update {place finish : State → Result State} (h : s.entersUpdate tdi rest) :
    requestRow place finish s = place (s.afterCycle true rest) := by
  simp only [requestRow, h.1.2]
  exact tckCycle_update h

/-- A request row on a step of the request engine. -/
theorem requestRow_engine {place finish : State → Result State}
    (h : s.env.inputs = .engine :: rest) :
    requestRow place finish s = finish (s.afterInput rest) := by
  simp only [requestRow, h, State.afterInput]

/-- A register's row on the cycle that enters Update-DR. -/
theorem registerRow_update {a : BitVec 7} {d : Word} {w : Bool} {get : State → Word}
    {put : Word → State → State} (h : s.entersUpdate tdi rest) :
    registerRow a d w get put s = (s.afterCycle true rest).placeRequest a d w :=
  requestRow_update h

/-- A register's row on a step of the request engine. -/
theorem registerRow_engine {a : BitVec 7} {d : Word} {w : Bool} {get : State → Word}
    {put : Word → State → State} (h : s.env.inputs = .engine :: rest) :
    registerRow a d w get put s =
      if w then .next (put d (s.afterInput rest)).finishWrite
      else .next ((s.afterInput rest).finishRead (get (s.afterInput rest))) :=
  requestRow_engine h

/-- A reserved row on the cycle that enters Update-DR. -/
theorem reservedRow_update (h : s.entersUpdate tdi rest) :
    reservedRow s =
      if s.ctl.reqReady then .refused .u6ReservedRequest else .next (s.afterCycle true rest) :=
  requestRow_update h

/-- A request that is taken and not refused. -/
theorem placeRequest_taken {a : BitVec 7} {d : Word} {w : Bool} (hr : s.ctl.reqReady = true)
    (ha : a ≠ 0) (hf : reservedAddress a = false) :
    s.placeRequest a d w =
      .next { s with dbg.req := some ⟨a, d, w⟩, dbg.rdData := none } := by
  unfold State.placeRequest
  rw [if_neg (by simp [hr]), if_neg ha, if_neg (by simp [hf])]

/-- A frozen scan's input is ignored. -/
theorem placeRequest_frozen {a : BitVec 7} {d : Word} {w : Bool} (hr : s.ctl.reqReady = false) :
    s.placeRequest a d w = .next s := by
  unfold State.placeRequest
  rw [if_pos (by simp [hr])]

/-- The NULL address generates no request. -/
theorem placeRequest_null {d : Word} {w : Bool} : s.placeRequest 0 d w = .next s := by
  simp [State.placeRequest]

/-- A reserved address is refused once the request would be placed. -/
theorem placeRequest_reserved {a : BitVec 7} {d : Word} {w : Bool} (ha : a ≠ 0)
    (hf : reservedAddress a = true) :
    s.placeRequest a d w =
      if s.ctl.reqReady then .refused .u6ReservedRequest else .next s := by
  unfold State.placeRequest
  cases hr : s.ctl.reqReady
  · rfl
  · rw [if_neg (by simp), if_neg ha, if_pos hf]; rfl

end Sys2Proof.Machine
end

