-- ==== Sys2Proof/Laws/Dispatch.lean ====
section
/-! SUPPORT. The arm of each constructor as an equation, and what all of them have in common on a TCK cycle. -/

namespace Sys2Proof.Machine

variable (s : State)

@[simp] theorem exec_extest : exec .extest s = execExtest s := rfl

@[simp] theorem exec_reserved01 : exec .reserved01 s = execReserved01 s := rfl

@[simp] theorem exec_scanN : exec .scanN s = execScanN s := rfl

@[simp] theorem exec_reserved03 : exec .reserved03 s = execReserved03 s := rfl

@[simp] theorem exec_restart : exec .restart s = execRestart s := rfl

@[simp] theorem exec_reserved05 : exec .reserved05 s = execReserved05 s := rfl

@[simp] theorem exec_reserved06 : exec .reserved06 s = execReserved06 s := rfl

@[simp] theorem exec_reserved07 : exec .reserved07 s = execReserved07 s := rfl

@[simp] theorem exec_halt : exec .halt s = execHalt s := rfl

@[simp] theorem exec_reserved09 : exec .reserved09 s = execReserved09 s := rfl

@[simp] theorem exec_reserved0A : exec .reserved0A s = execReserved0A s := rfl

@[simp] theorem exec_reserved0B : exec .reserved0B s = execReserved0B s := rfl

@[simp] theorem exec_intest : exec .intest s = execIntest s := rfl

@[simp] theorem exec_reserved0D : exec .reserved0D s = execReserved0D s := rfl

@[simp] theorem exec_reserved0E : exec .reserved0E s = execReserved0E s := rfl

@[simp] theorem exec_reserved0F : exec .reserved0F s = execReserved0F s := rfl

@[simp] theorem exec_reserved10 : exec .reserved10 s = execReserved10 s := rfl

@[simp] theorem exec_reserved11 : exec .reserved11 s = execReserved11 s := rfl

@[simp] theorem exec_reserved12 : exec .reserved12 s = execReserved12 s := rfl

@[simp] theorem exec_reserved13 : exec .reserved13 s = execReserved13 s := rfl

@[simp] theorem exec_reserved14 : exec .reserved14 s = execReserved14 s := rfl

@[simp] theorem exec_reserved15 : exec .reserved15 s = execReserved15 s := rfl

@[simp] theorem exec_reserved16 : exec .reserved16 s = execReserved16 s := rfl

@[simp] theorem exec_reserved17 : exec .reserved17 s = execReserved17 s := rfl

@[simp] theorem exec_reserved18 : exec .reserved18 s = execReserved18 s := rfl

@[simp] theorem exec_reserved19 : exec .reserved19 s = execReserved19 s := rfl

@[simp] theorem exec_reserved1A : exec .reserved1A s = execReserved1A s := rfl

@[simp] theorem exec_reserved1B : exec .reserved1B s = execReserved1B s := rfl

@[simp] theorem exec_reserved1C : exec .reserved1C s = execReserved1C s := rfl

@[simp] theorem exec_itrsel : exec .itrsel s = execItrsel s := rfl

@[simp] theorem exec_idcode : exec .idcode s = execIdcode s := rfl

@[simp] theorem exec_bypass : exec .bypass s = execBypass s := rfl

@[simp] theorem exec_chain0Didr : exec .chain0Didr s = execChain0Didr s := rfl

@[simp] theorem exec_chain1Dscr : exec .chain1Dscr s = execChain1Dscr s := rfl

@[simp]
theorem exec_chain2To3 (low : BitVec 1) : exec (.chain2To3 low) s = execChain2To3 low s := rfl

@[simp] theorem exec_chain4Itr : exec .chain4Itr s = execChain4Itr s := rfl

@[simp] theorem exec_chain5Dtr : exec .chain5Dtr s = execChain5Dtr s := rfl

@[simp] theorem exec_chain6Etm : exec .chain6Etm s = execChain6Etm s := rfl

@[simp] theorem exec_chain7DebugRegs : exec .chain7DebugRegs s = execChain7DebugRegs s := rfl

@[simp]
theorem exec_chain8To15 (low : BitVec 3) : exec (.chain8To15 low) s = execChain8To15 low s := rfl

@[simp]
theorem exec_chain16To31 (low : BitVec 4) : exec (.chain16To31 low) s = execChain16To31 low s := rfl

@[simp] theorem exec_null (d : Word) (w : Bool) : exec (.null d w) s = execNull d w s := rfl

@[simp] theorem exec_reserved1To6 (a : BitVec 7) (d : Word) (w : Bool) :
    exec (.reserved1To6 a d w) s = execReserved1To6 a d w s := rfl

@[simp] theorem exec_vcr (d : Word) (w : Bool) : exec (.vcr d w) s = execVcr d w s := rfl

@[simp] theorem exec_pc (d : Word) (w : Bool) : exec (.pc d w) s = execPc d w s := rfl

@[simp] theorem exec_norow9To18 (a : BitVec 7) (d : Word) (w : Bool) :
    exec (.norow9To18 a d w) s = execNorow9To18 a d w s := rfl

@[simp] theorem exec_reserved19To63 (a : BitVec 7) (d : Word) (w : Bool) :
    exec (.reserved19To63 a d w) s = execReserved19To63 a d w s := rfl

@[simp] theorem exec_bvr0 (d : Word) (w : Bool) : exec (.bvr0 d w) s = execBvr0 d w s := rfl

@[simp] theorem exec_bvr1 (d : Word) (w : Bool) : exec (.bvr1 d w) s = execBvr1 d w s := rfl

@[simp] theorem exec_bvr2 (d : Word) (w : Bool) : exec (.bvr2 d w) s = execBvr2 d w s := rfl

@[simp] theorem exec_bvr3 (d : Word) (w : Bool) : exec (.bvr3 d w) s = execBvr3 d w s := rfl

@[simp] theorem exec_bvr4 (d : Word) (w : Bool) : exec (.bvr4 d w) s = execBvr4 d w s := rfl

@[simp] theorem exec_bvr5 (d : Word) (w : Bool) : exec (.bvr5 d w) s = execBvr5 d w s := rfl

@[simp] theorem exec_reserved70To79 (a : BitVec 7) (d : Word) (w : Bool) :
    exec (.reserved70To79 a d w) s = execReserved70To79 a d w s := rfl

@[simp] theorem exec_bcr0 (d : Word) (w : Bool) : exec (.bcr0 d w) s = execBcr0 d w s := rfl

@[simp] theorem exec_bcr1 (d : Word) (w : Bool) : exec (.bcr1 d w) s = execBcr1 d w s := rfl

@[simp] theorem exec_bcr2 (d : Word) (w : Bool) : exec (.bcr2 d w) s = execBcr2 d w s := rfl

@[simp] theorem exec_bcr3 (d : Word) (w : Bool) : exec (.bcr3 d w) s = execBcr3 d w s := rfl

@[simp] theorem exec_bcr4 (d : Word) (w : Bool) : exec (.bcr4 d w) s = execBcr4 d w s := rfl

@[simp] theorem exec_bcr5 (d : Word) (w : Bool) : exec (.bcr5 d w) s = execBcr5 d w s := rfl

@[simp] theorem exec_reserved86To95 (a : BitVec 7) (d : Word) (w : Bool) :
    exec (.reserved86To95 a d w) s = execReserved86To95 a d w s := rfl

@[simp] theorem exec_wvr0 (d : Word) (w : Bool) : exec (.wvr0 d w) s = execWvr0 d w s := rfl

@[simp] theorem exec_wvr1 (d : Word) (w : Bool) : exec (.wvr1 d w) s = execWvr1 d w s := rfl

@[simp] theorem exec_reserved98To111 (a : BitVec 7) (d : Word) (w : Bool) :
    exec (.reserved98To111 a d w) s = execReserved98To111 a d w s := rfl

@[simp] theorem exec_wcr0 (d : Word) (w : Bool) : exec (.wcr0 d w) s = execWcr0 d w s := rfl

@[simp] theorem exec_wcr1 (d : Word) (w : Bool) : exec (.wcr1 d w) s = execWcr1 d w s := rfl

@[simp] theorem exec_reserved114To127 (a : BitVec 7) (d : Word) (w : Bool) :
    exec (.reserved114To127 a d w) s = execReserved114To127 a d w s := rfl

/-- On a TCK cycle the meaning of every instruction is one cycle of some data register leg. -/
theorem exec_due {s : State} {tms tdi : Bool} {rest : List Input} (i : Instr)
    (h : s.due tms tdi rest) : ∃ leg, exec i s = tckCycle leg s := by
  have row : ∀ place finish,
      requestRow place finish s = tckCycle { chain7Leg with update := place } s := by
    intro place finish
    simp only [requestRow, h.2]
  cases i
  case extest => exact ⟨_, rfl⟩
  case reserved01 => exact ⟨_, rfl⟩
  case scanN => exact ⟨_, rfl⟩
  case reserved03 => exact ⟨_, rfl⟩
  case restart => exact ⟨_, rfl⟩
  case reserved05 => exact ⟨_, rfl⟩
  case reserved06 => exact ⟨_, rfl⟩
  case reserved07 => exact ⟨_, rfl⟩
  case halt => exact ⟨_, rfl⟩
  case reserved09 => exact ⟨_, rfl⟩
  case reserved0A => exact ⟨_, rfl⟩
  case reserved0B => exact ⟨_, rfl⟩
  case intest => exact ⟨_, rfl⟩
  case reserved0D => exact ⟨_, rfl⟩
  case reserved0E => exact ⟨_, rfl⟩
  case reserved0F => exact ⟨_, rfl⟩
  case reserved10 => exact ⟨_, rfl⟩
  case reserved11 => exact ⟨_, rfl⟩
  case reserved12 => exact ⟨_, rfl⟩
  case reserved13 => exact ⟨_, rfl⟩
  case reserved14 => exact ⟨_, rfl⟩
  case reserved15 => exact ⟨_, rfl⟩
  case reserved16 => exact ⟨_, rfl⟩
  case reserved17 => exact ⟨_, rfl⟩
  case reserved18 => exact ⟨_, rfl⟩
  case reserved19 => exact ⟨_, rfl⟩
  case reserved1A => exact ⟨_, rfl⟩
  case reserved1B => exact ⟨_, rfl⟩
  case reserved1C => exact ⟨_, rfl⟩
  case itrsel => exact ⟨_, rfl⟩
  case idcode => exact ⟨_, rfl⟩
  case bypass => exact ⟨_, rfl⟩
  case chain0Didr => exact ⟨_, rfl⟩
  case chain1Dscr => exact ⟨_, rfl⟩
  case chain2To3 => exact ⟨_, rfl⟩
  case chain4Itr => exact ⟨_, rfl⟩
  case chain5Dtr => exact ⟨_, rfl⟩
  case chain6Etm => exact ⟨_, rfl⟩
  case chain7DebugRegs => exact ⟨_, rfl⟩
  case chain8To15 => exact ⟨_, rfl⟩
  case chain16To31 => exact ⟨_, rfl⟩
  case null => exact ⟨_, by unfold exec execNull; exact row _ _⟩
  case reserved1To6 => exact ⟨_, by unfold exec execReserved1To6 reservedRow; exact row _ _⟩
  case vcr => exact ⟨_, by unfold exec execVcr registerRow; exact row _ _⟩
  case pc => exact ⟨_, by unfold exec execPc registerRow; exact row _ _⟩
  case norow9To18 => exact ⟨_, by unfold exec execNorow9To18 reservedRow; exact row _ _⟩
  case reserved19To63 => exact ⟨_, by unfold exec execReserved19To63 reservedRow; exact row _ _⟩
  case bvr0 => exact ⟨_, by unfold exec execBvr0 registerRow; exact row _ _⟩
  case bvr1 => exact ⟨_, by unfold exec execBvr1 registerRow; exact row _ _⟩
  case bvr2 => exact ⟨_, by unfold exec execBvr2 registerRow; exact row _ _⟩
  case bvr3 => exact ⟨_, by unfold exec execBvr3 registerRow; exact row _ _⟩
  case bvr4 => exact ⟨_, by unfold exec execBvr4 registerRow; exact row _ _⟩
  case bvr5 => exact ⟨_, by unfold exec execBvr5 registerRow; exact row _ _⟩
  case reserved70To79 => exact ⟨_, by unfold exec execReserved70To79 reservedRow; exact row _ _⟩
  case bcr0 => exact ⟨_, by unfold exec execBcr0 registerRow; exact row _ _⟩
  case bcr1 => exact ⟨_, by unfold exec execBcr1 registerRow; exact row _ _⟩
  case bcr2 => exact ⟨_, by unfold exec execBcr2 registerRow; exact row _ _⟩
  case bcr3 => exact ⟨_, by unfold exec execBcr3 registerRow; exact row _ _⟩
  case bcr4 => exact ⟨_, by unfold exec execBcr4 registerRow; exact row _ _⟩
  case bcr5 => exact ⟨_, by unfold exec execBcr5 registerRow; exact row _ _⟩
  case reserved86To95 => exact ⟨_, by unfold exec execReserved86To95 reservedRow; exact row _ _⟩
  case wvr0 => exact ⟨_, by unfold exec execWvr0 registerRow; exact row _ _⟩
  case wvr1 => exact ⟨_, by unfold exec execWvr1 registerRow; exact row _ _⟩
  case reserved98To111 => exact ⟨_, by unfold exec execReserved98To111 reservedRow; exact row _ _⟩
  case wcr0 => exact ⟨_, by unfold exec execWcr0 registerRow; exact row _ _⟩
  case wcr1 => exact ⟨_, by unfold exec execWcr1 registerRow; exact row _ _⟩
  case reserved114To127 => exact ⟨_, by unfold exec execReserved114To127 reservedRow; exact row _ _⟩

end Sys2Proof.Machine
end

