-- ==== Sys2Proof/Laws/PerInstr.lean ====
section
/-! SUPPORT. A law of every instruction: its word is of the kind its row of spec/opcode_table.json has
(30_encoding.md rule R120), so that the encoder never puts a scan chain number where a code belongs. -/

namespace Sys2Proof.Laws

/-- The kind of row of an instruction, by constructor (30_encoding.md rule R120). -/
def rowFormat : Instr → Format
  | .extest => .ir5
  | .reserved01 => .ir5
  | .scanN => .ir5
  | .reserved03 => .ir5
  | .restart => .ir5
  | .reserved05 => .ir5
  | .reserved06 => .ir5
  | .reserved07 => .ir5
  | .halt => .ir5
  | .reserved09 => .ir5
  | .reserved0A => .ir5
  | .reserved0B => .ir5
  | .intest => .ir5
  | .reserved0D => .ir5
  | .reserved0E => .ir5
  | .reserved0F => .ir5
  | .reserved10 => .ir5
  | .reserved11 => .ir5
  | .reserved12 => .ir5
  | .reserved13 => .ir5
  | .reserved14 => .ir5
  | .reserved15 => .ir5
  | .reserved16 => .ir5
  | .reserved17 => .ir5
  | .reserved18 => .ir5
  | .reserved19 => .ir5
  | .reserved1A => .ir5
  | .reserved1B => .ir5
  | .reserved1C => .ir5
  | .itrsel => .ir5
  | .idcode => .ir5
  | .bypass => .ir5
  | .chain0Didr => .screg5
  | .chain1Dscr => .screg5
  | .chain2To3 _ => .screg5
  | .chain4Itr => .screg5
  | .chain5Dtr => .screg5
  | .chain6Etm => .screg5
  | .chain7DebugRegs => .screg5
  | .chain8To15 _ => .screg5
  | .chain16To31 _ => .screg5
  | .null _ _ => .sc7req
  | .reserved1To6 _ _ _ => .sc7req
  | .vcr _ _ => .sc7req
  | .pc _ _ => .sc7req
  | .norow9To18 _ _ _ => .sc7req
  | .reserved19To63 _ _ _ => .sc7req
  | .bvr0 _ _ => .sc7req
  | .bvr1 _ _ => .sc7req
  | .bvr2 _ _ => .sc7req
  | .bvr3 _ _ => .sc7req
  | .bvr4 _ _ => .sc7req
  | .bvr5 _ _ => .sc7req
  | .reserved70To79 _ _ _ => .sc7req
  | .bcr0 _ _ => .sc7req
  | .bcr1 _ _ => .sc7req
  | .bcr2 _ _ => .sc7req
  | .bcr3 _ _ => .sc7req
  | .bcr4 _ _ => .sc7req
  | .bcr5 _ _ => .sc7req
  | .reserved86To95 _ _ _ => .sc7req
  | .wvr0 _ _ => .sc7req
  | .wvr1 _ _ => .sc7req
  | .reserved98To111 _ _ _ => .sc7req
  | .wcr0 _ _ => .sc7req
  | .wcr1 _ _ => .sc7req
  | .reserved114To127 _ _ _ => .sc7req

/-- The word of the instruction is of its row's kind. -/
def EncodedInFormat.Statement (i : Instr) : Prop := (encode i).format = rowFormat i

theorem EncodedInFormat.extest : EncodedInFormat.Statement .extest := rfl

theorem EncodedInFormat.reserved01 : EncodedInFormat.Statement .reserved01 := rfl

theorem EncodedInFormat.scanN : EncodedInFormat.Statement .scanN := rfl

theorem EncodedInFormat.reserved03 : EncodedInFormat.Statement .reserved03 := rfl

theorem EncodedInFormat.restart : EncodedInFormat.Statement .restart := rfl

theorem EncodedInFormat.reserved05 : EncodedInFormat.Statement .reserved05 := rfl

theorem EncodedInFormat.reserved06 : EncodedInFormat.Statement .reserved06 := rfl

theorem EncodedInFormat.reserved07 : EncodedInFormat.Statement .reserved07 := rfl

theorem EncodedInFormat.halt : EncodedInFormat.Statement .halt := rfl

theorem EncodedInFormat.reserved09 : EncodedInFormat.Statement .reserved09 := rfl

theorem EncodedInFormat.reserved0A : EncodedInFormat.Statement .reserved0A := rfl

theorem EncodedInFormat.reserved0B : EncodedInFormat.Statement .reserved0B := rfl

theorem EncodedInFormat.intest : EncodedInFormat.Statement .intest := rfl

theorem EncodedInFormat.reserved0D : EncodedInFormat.Statement .reserved0D := rfl

theorem EncodedInFormat.reserved0E : EncodedInFormat.Statement .reserved0E := rfl

theorem EncodedInFormat.reserved0F : EncodedInFormat.Statement .reserved0F := rfl

theorem EncodedInFormat.reserved10 : EncodedInFormat.Statement .reserved10 := rfl

theorem EncodedInFormat.reserved11 : EncodedInFormat.Statement .reserved11 := rfl

theorem EncodedInFormat.reserved12 : EncodedInFormat.Statement .reserved12 := rfl

theorem EncodedInFormat.reserved13 : EncodedInFormat.Statement .reserved13 := rfl

theorem EncodedInFormat.reserved14 : EncodedInFormat.Statement .reserved14 := rfl

theorem EncodedInFormat.reserved15 : EncodedInFormat.Statement .reserved15 := rfl

theorem EncodedInFormat.reserved16 : EncodedInFormat.Statement .reserved16 := rfl

theorem EncodedInFormat.reserved17 : EncodedInFormat.Statement .reserved17 := rfl

theorem EncodedInFormat.reserved18 : EncodedInFormat.Statement .reserved18 := rfl

theorem EncodedInFormat.reserved19 : EncodedInFormat.Statement .reserved19 := rfl

theorem EncodedInFormat.reserved1A : EncodedInFormat.Statement .reserved1A := rfl

theorem EncodedInFormat.reserved1B : EncodedInFormat.Statement .reserved1B := rfl

theorem EncodedInFormat.reserved1C : EncodedInFormat.Statement .reserved1C := rfl

theorem EncodedInFormat.itrsel : EncodedInFormat.Statement .itrsel := rfl

theorem EncodedInFormat.idcode : EncodedInFormat.Statement .idcode := rfl

theorem EncodedInFormat.bypass : EncodedInFormat.Statement .bypass := rfl

theorem EncodedInFormat.chain0Didr : EncodedInFormat.Statement (.chain0Didr) := rfl

theorem EncodedInFormat.chain1Dscr : EncodedInFormat.Statement (.chain1Dscr) := rfl

theorem EncodedInFormat.chain2To3 (low : BitVec 1) : EncodedInFormat.Statement (.chain2To3 low) := rfl

theorem EncodedInFormat.chain4Itr : EncodedInFormat.Statement (.chain4Itr) := rfl

theorem EncodedInFormat.chain5Dtr : EncodedInFormat.Statement (.chain5Dtr) := rfl

theorem EncodedInFormat.chain6Etm : EncodedInFormat.Statement (.chain6Etm) := rfl

theorem EncodedInFormat.chain7DebugRegs : EncodedInFormat.Statement (.chain7DebugRegs) := rfl

theorem EncodedInFormat.chain8To15 (low : BitVec 3) : EncodedInFormat.Statement (.chain8To15 low) := rfl

theorem EncodedInFormat.chain16To31 (low : BitVec 4) : EncodedInFormat.Statement (.chain16To31 low) := rfl

theorem EncodedInFormat.null (d : Word) (w : Bool) :
    EncodedInFormat.Statement (.null d w) := rfl

theorem EncodedInFormat.reserved1To6 (a : BitVec 7) (d : Word) (w : Bool) :
    EncodedInFormat.Statement (.reserved1To6 a d w) := rfl

theorem EncodedInFormat.vcr (d : Word) (w : Bool) :
    EncodedInFormat.Statement (.vcr d w) := rfl

theorem EncodedInFormat.pc (d : Word) (w : Bool) :
    EncodedInFormat.Statement (.pc d w) := rfl

theorem EncodedInFormat.norow9To18 (a : BitVec 7) (d : Word) (w : Bool) :
    EncodedInFormat.Statement (.norow9To18 a d w) := rfl

theorem EncodedInFormat.reserved19To63 (a : BitVec 7) (d : Word) (w : Bool) :
    EncodedInFormat.Statement (.reserved19To63 a d w) := rfl

theorem EncodedInFormat.bvr0 (d : Word) (w : Bool) :
    EncodedInFormat.Statement (.bvr0 d w) := rfl

theorem EncodedInFormat.bvr1 (d : Word) (w : Bool) :
    EncodedInFormat.Statement (.bvr1 d w) := rfl

theorem EncodedInFormat.bvr2 (d : Word) (w : Bool) :
    EncodedInFormat.Statement (.bvr2 d w) := rfl

theorem EncodedInFormat.bvr3 (d : Word) (w : Bool) :
    EncodedInFormat.Statement (.bvr3 d w) := rfl

theorem EncodedInFormat.bvr4 (d : Word) (w : Bool) :
    EncodedInFormat.Statement (.bvr4 d w) := rfl

theorem EncodedInFormat.bvr5 (d : Word) (w : Bool) :
    EncodedInFormat.Statement (.bvr5 d w) := rfl

theorem EncodedInFormat.reserved70To79 (a : BitVec 7) (d : Word) (w : Bool) :
    EncodedInFormat.Statement (.reserved70To79 a d w) := rfl

theorem EncodedInFormat.bcr0 (d : Word) (w : Bool) :
    EncodedInFormat.Statement (.bcr0 d w) := rfl

theorem EncodedInFormat.bcr1 (d : Word) (w : Bool) :
    EncodedInFormat.Statement (.bcr1 d w) := rfl

theorem EncodedInFormat.bcr2 (d : Word) (w : Bool) :
    EncodedInFormat.Statement (.bcr2 d w) := rfl

theorem EncodedInFormat.bcr3 (d : Word) (w : Bool) :
    EncodedInFormat.Statement (.bcr3 d w) := rfl

theorem EncodedInFormat.bcr4 (d : Word) (w : Bool) :
    EncodedInFormat.Statement (.bcr4 d w) := rfl

theorem EncodedInFormat.bcr5 (d : Word) (w : Bool) :
    EncodedInFormat.Statement (.bcr5 d w) := rfl

theorem EncodedInFormat.reserved86To95 (a : BitVec 7) (d : Word) (w : Bool) :
    EncodedInFormat.Statement (.reserved86To95 a d w) := rfl

theorem EncodedInFormat.wvr0 (d : Word) (w : Bool) :
    EncodedInFormat.Statement (.wvr0 d w) := rfl

theorem EncodedInFormat.wvr1 (d : Word) (w : Bool) :
    EncodedInFormat.Statement (.wvr1 d w) := rfl

theorem EncodedInFormat.reserved98To111 (a : BitVec 7) (d : Word) (w : Bool) :
    EncodedInFormat.Statement (.reserved98To111 a d w) := rfl

theorem EncodedInFormat.wcr0 (d : Word) (w : Bool) :
    EncodedInFormat.Statement (.wcr0 d w) := rfl

theorem EncodedInFormat.wcr1 (d : Word) (w : Bool) :
    EncodedInFormat.Statement (.wcr1 d w) := rfl

theorem EncodedInFormat.reserved114To127 (a : BitVec 7) (d : Word) (w : Bool) :
    EncodedInFormat.Statement (.reserved114To127 a d w) := rfl

end Sys2Proof.Laws
end

