-- ==== Sys2Proof/Laws/Run.lean ====
section
/-! SUPPORT. A run of several steps, taken apart at its first step. -/

namespace Sys2Proof.Machine

theorem run_step_of {M : Host.Core} {k : Nat} {s t : M.State} (h : M.step s = .next t) :
    M.run (k + 1) s = M.run k t := by
  rw [Host.Core.run, h]

theorem run_next_of {M : Host.Core} {k : Nat} {s u : M.State} (h : M.run (k + 1) s = .next u) :
    ∃ t, M.step s = .next t ∧ M.run k t = .next u := by
  rw [Host.Core.run] at h
  cases hs : M.step s <;> simp only [hs] at h
  · exact ⟨_, rfl, h⟩
  · cases h
  · cases h

/-- A run goes on from its first step. -/
theorem run_step {k : Nat} {s t : State} (h : step s = .next t) :
    Host.Core.run Sys2Proof.core (k + 1) s = Host.Core.run Sys2Proof.core k t :=
  run_step_of (M := Sys2Proof.core) h

/-- A run that ends in a state has a first step and goes on from it. -/
theorem run_next {k : Nat} {s u : State} (h : Host.Core.run Sys2Proof.core (k + 1) s = .next u) :
    ∃ t, step s = .next t ∧ Host.Core.run Sys2Proof.core k t = .next u :=
  run_next_of (M := Sys2Proof.core) h

end Sys2Proof.Machine
end

