-- ==== Sys2Proof/Tests/Slice0.lean ====
section
/-! SUPPORT. The model's own tests: words written out from the tables of spec/30_encoding.md, single steps
whose results are the vectors of spec/95_test_vectors.md (V1 to V30, P1 to P6), and for every statement
with hypotheses a concrete state that meets them (witness_ followed by the statement's name). -/

namespace Sys2Proof.Tests

open Sys2Proof.Machine

/-! ### Helpers -/

/-- The reset state placed in the state machine, with an instruction, a chain and one TCK cycle to come. -/
def cyc (tap : TapState) (ir screg : BitVec 5) (tms tdi : Bool) : State :=
  { State.reset with
    ctl.tap := tap, ctl.ir := ir, ctl.screg := screg, env.inputs := [.tck tms tdi] }

/-- The reset state with one input to come. -/
def inp (e : Input) : State := { State.reset with env.inputs := [e] }

/-- The same machine with the core in Debug state and these stored DSCR bits. -/
def halted (dscr : Word) (s : State) : State :=
  { s with core.debugState := true, dbg.dscrBits := dscr }

/-- A core in Debug state, DSCR = 0x00006001, with R0 and a word in flight whose completion comes next. -/
def flying (w r0 : Word) (abort : Bool) : State :=
  { halted 0x6000 (inp (.coreComplete abort)) with
    core.inFlight := some w, dbg.instCompl := false, core.regs := CoreRegs.reset.setR0 r0 }

/-- A step of the request engine on a pending request. -/
def serve (a : BitVec 7) (d : Word) (w : Bool) : State :=
  { inp .engine with dbg.req := some ⟨a, d, w⟩ }

/-- The cycle that enters Update-DR with a request in scan chain 7 under EXTEST. -/
def place (a : BitVec 7) (d : Word) (w ready : Bool) : State :=
  { cyc .exit1Dr 0b00000 7 true false with ctl.s7 := (a ++ d) ++ BitVec.ofBool w, ctl.reqReady := ready }

/-- One value of the next state. -/
def got {α : Type} (o : Result State) (f : State → α) : Option α :=
  match o with
  | .next t => some (f t)
  | .fault _ => none
  | .refused _ => none

/-- The reason of a refusal. -/
def refusal (o : Result State) : Option Refusal :=
  match o with
  | .next _ => none
  | .fault _ => none
  | .refused r => some r

/-! ### Well-formedness -/

theorem test_refuses_reserved1To6 :
    (Instr.reserved1To6 0 0 false).wellFormed = false ∧
    (Instr.reserved1To6 7 0 false).wellFormed = false := by decide

theorem test_refuses_norow9To18 :
    (Instr.norow9To18 8 0 false).wellFormed = false ∧
    (Instr.norow9To18 19 0 false).wellFormed = false := by decide

theorem test_refuses_reserved19To63 :
    (Instr.reserved19To63 18 0 false).wellFormed = false ∧
    (Instr.reserved19To63 64 0 false).wellFormed = false := by decide

theorem test_refuses_reserved70To79 :
    (Instr.reserved70To79 69 0 false).wellFormed = false ∧
    (Instr.reserved70To79 80 0 false).wellFormed = false := by decide

theorem test_refuses_reserved86To95 :
    (Instr.reserved86To95 85 0 false).wellFormed = false ∧
    (Instr.reserved86To95 96 0 false).wellFormed = false := by decide

theorem test_refuses_reserved98To111 :
    (Instr.reserved98To111 97 0 false).wellFormed = false ∧
    (Instr.reserved98To111 112 0 false).wellFormed = false := by decide

theorem test_refuses_reserved114To127 :
    (Instr.reserved114To127 113 0 false).wellFormed = false ∧
    (Instr.reserved114To127 0 0 false).wellFormed = false := by decide

/-! ### Decoding: every constructor, from a word written out from the spec's tables -/

/-- Table 14-1 (30_encoding.md R102). -/
theorem test_decode_public :
    decode (.ir5 0b00000) = .extest ∧ decode (.ir5 0b00010) = .scanN ∧
    decode (.ir5 0b00100) = .restart ∧ decode (.ir5 0b01000) = .halt ∧
    decode (.ir5 0b01100) = .intest ∧ decode (.ir5 0b11101) = .itrsel ∧
    decode (.ir5 0b11110) = .idcode ∧ decode (.ir5 0b11111) = .bypass := by decide

/-- The codes Table 14-1 leaves (30_encoding.md R103). -/
theorem test_decode_reserved_codes :
    decode (.ir5 0b00001) = .reserved01 ∧ decode (.ir5 0b00011) = .reserved03 ∧
    decode (.ir5 0b00101) = .reserved05 ∧ decode (.ir5 0b00110) = .reserved06 ∧
    decode (.ir5 0b00111) = .reserved07 ∧ decode (.ir5 0b01001) = .reserved09 ∧
    decode (.ir5 0b01010) = .reserved0A ∧ decode (.ir5 0b01011) = .reserved0B ∧
    decode (.ir5 0b01101) = .reserved0D ∧ decode (.ir5 0b01110) = .reserved0E ∧
    decode (.ir5 0b01111) = .reserved0F ∧ decode (.ir5 0b10000) = .reserved10 ∧
    decode (.ir5 0b10001) = .reserved11 ∧ decode (.ir5 0b10010) = .reserved12 ∧
    decode (.ir5 0b10011) = .reserved13 ∧ decode (.ir5 0b10100) = .reserved14 ∧
    decode (.ir5 0b10101) = .reserved15 ∧ decode (.ir5 0b10110) = .reserved16 ∧
    decode (.ir5 0b10111) = .reserved17 ∧ decode (.ir5 0b11000) = .reserved18 ∧
    decode (.ir5 0b11001) = .reserved19 ∧ decode (.ir5 0b11010) = .reserved1A ∧
    decode (.ir5 0b11011) = .reserved1B ∧ decode (.ir5 0b11100) = .reserved1C := by decide

/-- Scan chain numbers (30_encoding.md R115). -/
theorem test_decode_chains :
    decode (.screg5 0b00000) = .chain0Didr ∧ decode (.screg5 0b00001) = .chain1Dscr ∧
    decode (.screg5 0b00010) = .chain2To3 0 ∧ decode (.screg5 0b00011) = .chain2To3 1 ∧
    decode (.screg5 0b00100) = .chain4Itr ∧ decode (.screg5 0b00101) = .chain5Dtr ∧
    decode (.screg5 0b00110) = .chain6Etm ∧ decode (.screg5 0b00111) = .chain7DebugRegs ∧
    decode (.screg5 0b01000) = .chain8To15 0b000 ∧ decode (.screg5 0b01111) = .chain8To15 0b111 ∧
    decode (.screg5 0b10000) = .chain16To31 0b0000 ∧
    decode (.screg5 0b11111) = .chain16To31 0b1111 := by decide

/-- Requests written out as Address, Data, nRW (30_encoding.md R113, R114). -/
theorem test_decode_requests :
    decode (.sc7req 0b0000000_00010010001101000101011001111000_1) = .null 0x12345678 true ∧
    decode (.sc7req 0b0000111_00000000000000000000000011111111_1) = .vcr 0xFF true ∧
    decode (.sc7req 0b0001000_00000000000000000000000000000000_0) = .pc 0 false ∧
    decode (.sc7req 0b1000000_00000000000000001000000000000000_1) = .bvr0 0x8000 true ∧
    decode (.sc7req 0b1000001_00000000000000000000000000000001_0) = .bvr1 1 false ∧
    decode (.sc7req 0b1000010_10000000000000000000000000000000_1) = .bvr2 0x80000000 true ∧
    decode (.sc7req 0b1000011_00000000000000000000000000000000_0) = .bvr3 0 false ∧
    decode (.sc7req 0b1000100_00000000000000000000000000000000_0) = .bvr4 0 false ∧
    decode (.sc7req 0b1000101_00000000000000000000000000000000_0) = .bvr5 0 false := by decide

theorem test_decode_requests_control :
    decode (.sc7req 0b1010000_00000000000000000000000111100111_1) = .bcr0 0x1E7 true ∧
    decode (.sc7req 0b1010001_00000000000000000000000000000000_0) = .bcr1 0 false ∧
    decode (.sc7req 0b1010010_00000000000000000000000000000000_0) = .bcr2 0 false ∧
    decode (.sc7req 0b1010011_00000000000000000000000000000000_0) = .bcr3 0 false ∧
    decode (.sc7req 0b1010100_00000000000000000000000000000000_0) = .bcr4 0 false ∧
    decode (.sc7req 0b1010101_00000000000000000000000000000001_1) = .bcr5 1 true ∧
    decode (.sc7req 0b1100000_11111111111111111111111111111111_1) = .wvr0 0xFFFFFFFF true ∧
    decode (.sc7req 0b1100001_00000000000000000000000000000000_0) = .wvr1 0 false ∧
    decode (.sc7req 0b1110000_00000000000000000000000000000000_0) = .wcr0 0 false ∧
    decode (.sc7req 0b1110001_00000000000000000000000000000000_1) = .wcr1 0 true := by decide

theorem test_decode_requests_reserved :
    decode (.sc7req 0b0000001_00000000000000000000000000000000_0) = .reserved1To6 1 0 false ∧
    decode (.sc7req 0b0000110_00000000000000000000000000000000_1) = .reserved1To6 6 0 true ∧
    decode (.sc7req 0b0001001_00000000000000000000000000000000_0) = .norow9To18 9 0 false ∧
    decode (.sc7req 0b0010010_00000000000000000000000000000000_0) = .norow9To18 18 0 false ∧
    decode (.sc7req 0b0010011_00000000000000000000000000000000_0) = .reserved19To63 19 0 false ∧
    decode (.sc7req 0b0111111_00000000000000000000000000000000_0) = .reserved19To63 63 0 false ∧
    decode (.sc7req 0b1000110_00000000000000000000000000000000_0) = .reserved70To79 70 0 false ∧
    decode (.sc7req 0b1001111_00000000000000000000000000000000_0) = .reserved70To79 79 0 false ∧
    decode (.sc7req 0b1010110_00000000000000000000000000000000_0) = .reserved86To95 86 0 false ∧
    decode (.sc7req 0b1011111_00000000000000000000000000000000_0) = .reserved86To95 95 0 false ∧
    decode (.sc7req 0b1100010_00000000000000000000000000000000_0) = .reserved98To111 98 0 false ∧
    decode (.sc7req 0b1101111_00000000000000000000000000000000_0) = .reserved98To111 111 0 false ∧
    decode (.sc7req 0b1110010_00000000000000000000000000000000_0) = .reserved114To127 114 0 false ∧
    decode (.sc7req 0b1111111_00000000000000000000000000000000_1) = .reserved114To127 127 0 true := by
  decide

/-- The host's table words: one byte is a code, five are a request; a code with padding is refused by name. -/
theorem test_table_words :
    decodeTableWord 5 0x1E = some .idcode ∧ decodeTableWord 40 0x8000010001 = some (.bvr0 0x8000 true) ∧
    decodeTableWord 40 0x002468ACF1 = some (.null 0x12345678 true) ∧ decodeTableWord 8 0x20 = none ∧
    decodeTableWord 16 5 = some .chain5Dtr ∧ decodeTableWord 48 0 = none ∧
    decodeBytes [0x20] = .error .paddingNotZero := ⟨by decide, by decide, by decide, by decide, by decide, by decide, rfl⟩

/-- The host's question, on one row of each kind: the word placed by `withFetchWord` is what step runs. -/
theorem test_fetches_table_words :
    got (step (State.reset.withFetchWord 5 0x08)) (fun t => t.core.haltReq) = some true ∧
    got (step (State.reset.withFetchWord 40 0x0E000001FF)) (fun t => t.dbg.req) =
      some (some ⟨7, 0xFF, true⟩) := by decide

/-! ### One step: the public instructions -/

/-- V9: an EXTEST update writes DSCR[14:13] from an all-ones frame, in Debug state. -/
theorem test_extest_writes_dscr :
    got (step { halted 0x4000 (cyc .exit1Dr 0 1 true false) with ctl.s1 := 0xFFFFFFFF }) State.dscr =
      some 0x00006001 := by decide

/-- V10 (a): setting DSCR[13] while the core is not in Debug state. -/
theorem test_extest_refuses_u1 :
    refusal (step { cyc .exit2Dr 0 1 true false with ctl.s1 := 0x00002000 }) =
      some .u1ExecEnableSetOutsideDebug := by decide

/-- V8 (b): INTEST reads 0x000041C1 and clears the sticky flags. -/
theorem test_intest_reads_and_clears :
    got (step (halted 0x41C0 (cyc .captureDr 0b01100 1 false false))) (fun t => (t.ctl.s1, t.dscr)) =
      some (0x000041C1, 0x00004001) := by decide

/-- V8 (c): INTEST discards the ones presented. -/
theorem test_intest_does_not_write :
    got (step { halted 0x4000 (cyc .exit1Dr 0b01100 1 true false) with ctl.s1 := 0xFFFFFFFF })
      State.dscr = some 0x00004001 := by decide

/-- V6: Scan_N captures b10000 and loads SCREG with b00101. -/
theorem test_scanN_captures :
    got (step (cyc .captureDr 0b00010 3 false false)) (fun t => (t.ctl.scs, t.ctl.ready)) =
      some (0b10000, true) := by decide

theorem test_scanN_selects :
    got (step { cyc .exit1Dr 0b00010 3 true false with ctl.scs := 0b00101 })
      (fun t => (t.ctl.screg, t.ctl.tap)) = some (0b00101, .updateDr) := by decide

/-- V26: Restart at entry to Run-Test/Idle, in Debug state with DSCR[1] = 1. -/
theorem test_restart_requests :
    got (step { halted 0 (cyc .updateIr 0b00100 1 false false) with dbg.coreRestarted := true })
      (fun t => (t.core.restartReq, t.dscr)) = some (true, 0x00000001) := by decide

/-- V27 (a). -/
theorem test_restart_refuses_u13 :
    refusal (step (cyc .updateIr 0b00100 1 false false)) = some .u13RestartOutsideDebug := by decide

/-- V26, and V27 (c): Halt with DBGEN deasserted. -/
theorem test_halt_requests :
    got (step (cyc .updateIr 0b01000 3 false false)) (fun t => t.core.haltReq) = some true := by decide

theorem test_halt_needs_dbgen :
    got (step { cyc .updateIr 0b01000 3 false false with pins.dbgen := false })
      (fun t => t.core.haltReq) = some false := by decide

/-- V25: ITRsel with SCREG = 5 loads the ITR, and entry to Run-Test/Idle issues it. -/
theorem test_itrsel_loads :
    got (step { halted 0x6000 (cyc .exit1Dr 0b11101 5 true false) with
      ctl.s4 := 0x0EE000E15, ctl.ready := true }) (fun t => (t.dbg.itr, t.ctl.screg)) =
      some (0xEE000E15, 5) := by decide

theorem test_itrsel_issues :
    got (step { halted 0x6000 (cyc .updateDr 0b11101 5 false false) with
      dbg.itr := 0xEE000E15, ctl.ready := true }) (fun t => (t.core.inFlight, t.dbg.instCompl)) =
      some (some 0xEE000E15, false) := by decide

/-- V2: the device ID code, and its first bit. -/
theorem test_idcode_captures :
    got (step (cyc .captureDr 0b11110 3 false false)) (fun t => t.ctl.ids) = some 0x07B76F0F := by decide

theorem test_idcode_shifts :
    got (step { cyc .shiftDr 0b11110 3 false true with ctl.ids := 0x07B76F0F })
      (fun t => (t.ctl.tdo, t.ctl.ids)) = some (some true, 0x83DBB787) := by decide

/-- V4: the first bit shifted out is 0, and the input comes out one cycle later. -/
theorem test_bypass_captures_zero :
    got (step { cyc .captureDr 0b11111 3 false true with ctl.byp := true }) (fun t => t.ctl.byp) =
      some false := by decide

theorem test_bypass_delays :
    got (step { cyc .shiftDr 0b11111 3 true true with ctl.byp := false })
      (fun t => (t.ctl.tdo, t.ctl.byp, t.ctl.tap)) = some (some false, true, .exit1Dr) := by decide

/-- V5: every reserved code shifts as Bypass does. -/
theorem test_reserved_codes_bypass :
    ∀ c ∈ ([0x01, 0x03, 0x05, 0x06, 0x07, 0x09, 0x0A, 0x0B, 0x0D, 0x0E, 0x0F, 0x10, 0x11, 0x12, 0x13,
        0x14, 0x15, 0x16, 0x17, 0x18, 0x19, 0x1A, 0x1B, 0x1C] : List (BitVec 5)),
      got (step { cyc .shiftDr c 1 false false with ctl.byp := true })
        (fun t => (t.ctl.tdo, t.ctl.byp)) = some (some true, false) := by decide

/-! ### One step: the scan chains -/

/-- V7, with the vectors' DIDR. -/
theorem test_chain0_captures :
    got (step { cyc .captureDr 0b01100 0 false false with cfg.didr := 0x15121234 })
      (fun t => t.ctl.s0) = some 0x4115121234 := by decide

/-- V8 (a): EXTEST does not clear the sticky flags. -/
theorem test_chain1_extest_keeps_sticky :
    got (step (halted 0x41C0 (cyc .captureDr 0 1 false false))) (fun t => (t.ctl.s1, t.dscr)) =
      some (0x000041C1, 0x000041C1) := by decide

/-- V10 (b). -/
theorem test_chain1_refuses_u4 :
    refusal (step { halted 0x6000 (cyc .exit1Dr 0 1 true false) with
      ctl.s1 := 0x00004001, dbg.instCompl := false }) = some .u4ExecEnableClearedInFlight := by decide

/-- V28. -/
theorem test_chains_without_behaviour :
    refusal (step (cyc .captureDr 0b01100 3 false false)) = some .u10UndescribedChain ∧
    refusal (step (cyc .captureDr 0 2 false false)) = some .u10UndescribedChain ∧
    refusal (step (cyc .captureDr 0b01100 8 false false)) = some .u11ReservedChain ∧
    refusal (step (cyc .captureDr 0b01100 15 false false)) = some .u11ReservedChain ∧
    refusal (step (cyc .captureDr 0b01100 16 false false)) = some .u12UnassignedChain ∧
    refusal (step (cyc .captureDr 0b01100 31 false false)) = some .u12UnassignedChain ∧
    refusal (step (cyc .captureDr 0b11101 31 false false)) = none := by decide

/-- R158: Ready is bit 32 of scan chain 4, over open bits (supplied here as ones); R159: a frame presented with Ready = 0 is dropped. -/
theorem test_chain4_captures_ready :
    got (step { cyc .captureDr 0 4 false false with
      dbg.instCompl := false, env.draws := [0xFFFFFFFFFF] })
      (fun t => (t.ctl.s4, t.ctl.ready)) = some (0x0FFFFFFFF, false) := by decide

theorem test_chain4_drops :
    got (step { cyc .exit1Dr 0 4 true false with ctl.s4 := 0x0EE000E15, ctl.ready := false })
      (fun t => t.dbg.itr) = some 0 := by decide

/-- P5: the wDTR with Valid = Ready = 1, and the flag cleared. -/
theorem test_chain5_intest_captures :
    got (step { cyc .captureDr 0b01100 5 false false with dbg.wdtr := 0x5555AAAA, dbg.wdtrFull := true })
      (fun t => (t.ctl.s5, t.ctl.valid, t.dbg.wdtrFull)) = some (0x35555AAAA, true, false) := by decide

/-- P5: with nRetry = 0 the second word is not written. -/
theorem test_chain5_dcc_update :
    got (step { cyc .exit1Dr 0 5 true false with
      ctl.s5 := 0x0AAAA0002, ctl.ready := true, ctl.nRetry := false, dbg.rdtr := 0xAAAA0001 })
      (fun t => t.dbg.rdtr) = some 0xAAAA0001 := by decide

/-- V29: scan chain 6 under EXTEST leaves the ETM alone. -/
theorem test_chain6_extest_ignored :
    got (step { cyc .exit1Dr 0 6 true false with ctl.s6 := 0xFFFFFFFFFF }) (fun t => t.etm) =
      some 0 := by decide

/-- V20, second row: with a request pending the chain freezes and shows 0. -/
theorem test_chain7_freezes :
    got (step { cyc .captureDr 0 7 false false with
      ctl.s7 := 0x8000010001, dbg.req := some ⟨64, 0x8000, true⟩ })
      (fun t => (t.ctl.s7, t.ctl.reqReady)) = some (0x8000010000, false) := by decide

theorem test_chain7_frozen_shift :
    got (step { cyc .shiftDr 0 7 false true with ctl.s7 := 0x8000010001 })
      (fun t => (t.ctl.s7, t.ctl.tdo)) = some (0x8000010001, some false) := by decide

/-! ### One step: the requests -/

/-- V20: a write of BVR0 placed, and ignored while frozen. -/
theorem test_bvr0_placed :
    got (step (place 64 0x8000 true true)) (fun t => t.dbg.req) = some (some ⟨64, 0x8000, true⟩) ∧
    got (step (place 64 0x8000 true false)) (fun t => t.dbg.req) = some none := by decide

/-- V20, last row: NULL. -/
theorem test_null_places_nothing :
    got (step (place 0 0x12345678 true true)) (fun t => t.dbg.req) = some none := by decide

/-- V20, V22: the engine's writes, one register of each kind and each end of a bank. -/
theorem test_engine_writes :
    got (step (serve 7 0xFF true)) (fun t => (t.dbg.vcr, t.dbg.req)) = some (0xFF, none) ∧
    got (step (serve 64 0x8000 true)) (fun t => t.dbg.bvr) = some #v[0x8000, 0, 0, 0, 0, 0] ∧
    got (step (serve 69 5 true)) (fun t => t.dbg.bvr) = some #v[0, 0, 0, 0, 0, 5] ∧
    got (step (serve 80 0x1E7 true)) (fun t => t.dbg.bcr) = some #v[0x1E7, 0, 0, 0, 0, 0] ∧
    got (step (serve 83 3 true)) (fun t => t.dbg.bcr) = some #v[0, 0, 0, 3, 0, 0] ∧
    got (step (serve 97 1 true)) (fun t => t.dbg.wvr) = some #v[0, 1] ∧
    got (step (serve 112 2 true)) (fun t => t.dbg.wcr) = some #v[2, 0] := by decide

/-- V21: a read leaves the register's contents for the next capture, which delivers them. -/
theorem test_engine_reads :
    got (step { serve 80 0 false with dbg.bcr := #v[0x1E7, 1, 2, 3, 4, 5] })
      (fun t => (t.dbg.rdData, t.dbg.req)) = some (some 0x1E7, none) := by decide

theorem test_chain7_delivers :
    got (step { cyc .captureDr 0 7 false false with dbg.rdData := some 0x1E7, env.draws := [0] })
      (fun t => (t.ctl.s7, t.dbg.rdData)) = some (0x00000003CF, none) := by decide

/-- V23: every boundary address is refused when placed, and ignored while frozen. -/
theorem test_reserved_addresses :
    ∀ a ∈ ([1, 6, 9, 18, 19, 63, 70, 79, 86, 95, 98, 111, 114, 127] : List (BitVec 7)),
      refusal (step (place a 0 false true)) = some .u6ReservedRequest ∧
      got (step (place a 0 true false)) (fun t => t.dbg.req) = some none := by decide

/-- V24: PC samples. -/
theorem test_pc_samples :
    pcSampleOf .arm 0x00008000 = 0x00008008 ∧ pcSampleOf .arm 0xFFFFFFFC = 0x00000004 ∧
    pcSampleOf .thumb 0x00008002 = 0x00008007 ∧ pcSampleOf .jazelle 0x00008003 = 0x00008002 := by decide

/-- R181: an ARM instruction committed before T was written still reads as an ARM state sample. -/
theorem test_pc_sample_keeps_state :
    State.pcSample { State.reset with core.regs.cpsr := 0x1F3, core.regs.committed := 0x8000 } =
      0x00008008 := by decide

theorem test_pc_in_debug_state :
    got (step (halted 0 (serve 8 0 false))) (fun t => t.dbg.rdData) = some (some 0xFFFFFFFF) ∧
    got (step (serve 8 0x1234 true)) (fun t => (t.core.regs.pc, t.dbg.req)) = some (0, none) := by decide

/-! ### One step: the core -/

/-- V26: the halt step and the restart step. -/
theorem test_halt_step :
    got (step { inp .coreHalt with core.haltReq := true }) State.dscr = some 0x00000001 := by decide

theorem test_restart_step :
    got (step { halted 0 (inp .coreRestart) with core.restartReq := true })
      (fun t => (t.core.debugState, t.dscr)) = some (false, 0x00000002) := by decide

/-- V27 (b). -/
theorem test_restart_step_refuses_u2 :
    refusal (step { halted 0x6000 (inp .coreRestart) with core.restartReq := true }) =
      some .u2RestartWithExecEnable := by decide

/-- P2: `MCR p14,0,R0,c0,c5,0` completes. -/
theorem test_dtr_write :
    got (step (flying 0xEE000E15 0xC0DE1234 false)) (fun t => (t.dbg.wdtr, t.dbg.wdtrFull, t.dbg.instCompl)) =
      some (0xC0DE1234, true, true) := by decide

/-- P4: the first LDC, and the third, which aborts. -/
theorem test_ldc :
    got (step { flying 0xECB05E01 0x1000 false with
      core.mem := [(0x1000, 0x11), (0x1001, 0x11), (0x1002, 0x11), (0x1003, 0x11)] })
      (fun t => (t.dbg.wdtr, t.core.regs.r0)) = some (0x11111111, 0x1004) := by decide

theorem test_ldc_aborts :
    got (step (flying 0xECB05E01 0x1008 true)) (fun t => (t.dscr, t.core.regs.r0)) =
      some (0x00006041, 0x1008) := by decide

/-- 42_debug_execution.md R198: a privileged mode of the Secure world changes the mode, with SPIDEN deasserted. -/
theorem test_msr_cpsr_privileged :
    got (step (flying 0xE129F000 0x000001D1 false)) (fun t => t.core.regs.cpsr) = some 0x000001D1 := by
  decide

/-- 42_debug_execution.md R200: software's STC stores the rDTR at R0 and moves R0 on. -/
theorem test_software_stc :
    got (step { inp (.softwareDcc .stc false) with
        dbg.rdtr := 0x0A0B0C0D, dbg.rdtrEmpty := false, core.regs := CoreRegs.reset.setR0 0x20 })
      (fun t => (t.core.mem, t.core.regs.r0, t.dbg.rdtrEmpty)) =
      some ([(0x20, 0x0D), (0x21, 0x0C), (0x22, 0x0B), (0x23, 0x0A)], 0x24, true) := by decide

/-- 60_exceptions.md R272, R273: a request made with DBGEN asserted waits once DBGEN is deasserted (log 22, 51). -/
theorem test_halt_waits_for_dbgen :
    got (step { inp .coreHalt with core.haltReq := true, pins.dbgen := false })
      (fun t => (t.core.haltReq, t.core.debugState)) = some (true, false) := by decide

/-- V30: the PC read in Debug state, by the state at entry. -/
theorem test_pc_read :
    ∀ p ∈ ([(.arm, 0x8008), (.thumb, 0x8004), (.jazelle, 0x8000)] : List (Isa × Word)),
      got (step { flying 0xE1A0000F 0 false with core.entryIsa := p.1, core.regs.pc := 0x8000 })
        (fun t => t.core.regs.r0) = some p.2 := by decide

/-- P6: `MOV PC,R0`. -/
theorem test_pc_write :
    got (step (flying 0xE1A0F000 0x9000 false)) (fun t => t.core.regs.pc) = some 0x9000 := by decide

/-! ### States that meet the statements' hypotheses -/

/-- Both ends of every range of addresses. -/
theorem witness_DecodeEncode :
    (∀ i ∈ [Instr.reserved1To6 1 0 false, .reserved1To6 6 0 true, .norow9To18 9 0 false,
      .norow9To18 18 0 true, .reserved19To63 19 0 false, .reserved19To63 63 0 true,
      .reserved70To79 70 0 false, .reserved70To79 79 0 true, .reserved86To95 86 0 false,
      .reserved86To95 95 0 true, .reserved98To111 98 0 false, .reserved98To111 111 0 true,
      .reserved114To127 114 0 false, .reserved114To127 127 0 true, .vcr 5 true, .chain8To15 7],
      i.wellFormed = true) :=
  by decide

theorem witness_StepRunsDecodedInstruction :
    (let s : State := cyc .exit1Dr 0 7 true false;
      s.env.inputs = [.tck true false]) ∧
    (let s : State := serve 113 1 true;
      s.env.inputs = [.engine] ∧ s.dbg.req = some ⟨113, 1, true⟩) ∧
    (let s : State := inp .engine;
      s.env.inputs = [.engine] ∧ s.dbg.req = none) :=
  ⟨rfl,
    ⟨rfl, rfl⟩,
    ⟨rfl, rfl⟩⟩

/-- A cycle whose word is a request's, and one of a scan chain. -/
theorem witness_CycleIsCurrentInstruction :
    (let s : State := place 64 1 true true;
      s.env.inputs = [.tck true false] ∧ s.cycleFrame true = .sc7req 0x8000000003) ∧
    (let s : State := cyc .captureDr 0b11101 9 false false;
      s.env.inputs = [.tck false false] ∧ s.cycleFrame false = .screg5 4) :=
  ⟨⟨rfl, rfl⟩,
    ⟨rfl, rfl⟩⟩

theorem witness_TestLogicResetResets :
    (let s : State := cyc .testLogicReset 0 1 false false;
      s.due false false [] ∧ s.ctl.tap = .testLogicReset) ∧
    (let s : State := cyc .selectIr 0 1 true false;
      s.due true false [] ∧ s.ctl.tap = .selectIr) :=
  ⟨⟨⟨rfl, rfl⟩, rfl⟩,
    ⟨⟨rfl, rfl⟩, rfl⟩⟩

theorem witness_DbgntrstHoldsReset :
    (let s : State := inp (.trst true);
      s.env.inputs = [.trst true]) ∧
    (let s : State := { cyc .shiftDr 0 1 false false with pins.trst := true };
      s.env.inputs = [.tck false false] ∧ s.pins.trst = true) ∧
    (let s : State := inp (.trst false);
      s.env.inputs = [.trst false]) :=
  ⟨rfl,
    ⟨rfl, rfl⟩,
    rfl⟩

/-- Five cycles from Pause-DR, past an update that goes through. -/
def fiveOnes : State :=
  { cyc .pauseDr 0b11111 1 true false with
    env.inputs := [.tck true false, .tck true false, .tck true false, .tck true false, .tck true false] }

theorem witness_FiveCyclesReset :
    fiveOnes.env.inputs =
      [.tck true false, .tck true false, .tck true false, .tck true false, .tck true false] ∧
    ∃ t, Host.Core.run Sys2Proof.core 5 fiveOnes = .next t :=
  ⟨rfl, _, rfl⟩

theorem witness_IrScan :
    (let s : State := cyc .captureIr 0 1 true false;
      s.due true false [] ∧ s.ctl.tap = .captureIr) ∧
    (let s : State := cyc .shiftIr 0 1 true true;
      s.due true true [] ∧ s.ctl.tap = .shiftIr) ∧
    (let s : State := cyc .exit1Ir 0 1 true false;
      s.due true false [] ∧ (s.ctl.tap = .exit1Ir ∨ s.ctl.tap = .exit2Ir)) ∧
    (let s : State := cyc .exit2Ir 0 1 true false;
      s.due true false [] ∧ (s.ctl.tap = .exit1Ir ∨ s.ctl.tap = .exit2Ir)) :=
  ⟨⟨⟨rfl, rfl⟩, rfl⟩,
    ⟨⟨rfl, rfl⟩, rfl⟩,
    ⟨⟨rfl, rfl⟩, .inl rfl⟩,
    ⟨⟨rfl, rfl⟩, .inr rfl⟩⟩

theorem witness_QuietCycles :
    (let s : State := cyc .runTestIdle 0 1 false false;
      s.due false false [] ∧ s.ctl.tap.quiet false = true) ∧
    (let s : State := cyc .updateDr 0 1 true false;
      s.due true false [] ∧ s.ctl.tap.quiet true = true) :=
  ⟨⟨⟨rfl, rfl⟩, rfl⟩,
    ⟨⟨rfl, rfl⟩, rfl⟩⟩

/-- The four cycles in which an instruction acts are all to be had, whatever it is. -/
def LegsMet (ir : BitVec 5) : Prop :=
  (cyc .captureDr ir 1 true false).atCapture true false [] ∧
  (cyc .shiftDr ir 1 true true).atShift true true [] ∧
  (cyc .exit1Dr ir 1 true false).entersUpdate false [] ∧
  (cyc .exit2Dr ir 1 true false).entersUpdate false [] ∧
  (cyc .updateDr ir 1 false false).entersIdle false [] ∧
  (cyc .updateIr ir 1 false false).entersIdle false []

theorem witness_BypassAndReservedCodes : LegsMet 0b11111 :=
  ⟨⟨⟨rfl, rfl⟩, rfl⟩, ⟨⟨rfl, rfl⟩, rfl⟩, ⟨⟨rfl, rfl⟩, .inl rfl⟩, ⟨⟨rfl, rfl⟩, .inr rfl⟩,
    ⟨⟨rfl, rfl⟩, .inl rfl⟩, ⟨⟨rfl, rfl⟩, .inr rfl⟩⟩

theorem witness_Idcode : LegsMet 0b11110 := witness_BypassAndReservedCodes

theorem witness_ScanN : LegsMet 0b00010 := witness_BypassAndReservedCodes

theorem witness_Halt :
    (let s : State := cyc .updateIr 0b01000 1 false false;
      s.entersIdle false [] ∧ s.core.debugState = false ∧ s.pins.dbgen = true) ∧
    (let s : State := halted 0 (cyc .updateDr 0b01000 1 false false);
      s.entersIdle false [] ∧ s.core.debugState = true) ∧
    (let s : State := { cyc .updateIr 0b01000 1 false false with pins.dbgen := false };
      s.entersIdle false [] ∧ s.pins.dbgen = false) ∧
    (LegsMet 0b01000) :=
  ⟨⟨⟨⟨rfl, rfl⟩, .inr rfl⟩, rfl, rfl⟩,
    ⟨⟨⟨rfl, rfl⟩, .inl rfl⟩, rfl⟩,
    ⟨⟨⟨rfl, rfl⟩, .inr rfl⟩, rfl⟩,
    witness_BypassAndReservedCodes⟩

theorem witness_Restart :
    (let s : State := halted 0 (cyc .updateIr 0b00100 1 false false);
      s.entersIdle false [] ∧ s.core.debugState = true) ∧
    (let s : State := cyc .updateIr 0b00100 1 false false;
      s.entersIdle false [] ∧ s.core.debugState = false) ∧
    (LegsMet 0b00100) :=
  ⟨⟨⟨⟨rfl, rfl⟩, .inr rfl⟩, rfl⟩,
    ⟨⟨⟨rfl, rfl⟩, .inr rfl⟩, rfl⟩,
    witness_BypassAndReservedCodes⟩

theorem witness_Chain0Capture :
    (let s : State := cyc .captureDr 0 0 false false;
      s.connects .extest .extest 0 ∧ s.connects .chain0Didr .extest 0 ∧
        s.atCapture false false []) ∧
    (let s : State := cyc .captureDr 0b01100 0 false false;
      s.connects .intest .intest 0 ∧ s.connects .chain0Didr .intest 0 ∧
        s.atCapture false false []) :=
  ⟨⟨.inl ⟨rfl, rfl, rfl, .inl rfl⟩, .inl ⟨rfl, rfl, rfl, .inr rfl⟩, ⟨⟨rfl, rfl⟩, rfl⟩⟩,
    ⟨.inr (.inl ⟨rfl, rfl, rfl, .inl rfl⟩), .inr (.inl ⟨rfl, rfl, rfl, .inr rfl⟩), ⟨⟨rfl, rfl⟩, rfl⟩⟩⟩

theorem witness_Chain1Capture :
    (let s : State := halted 0x41C0 (cyc .captureDr 0 1 false false);
      s.connects .extest .extest 1 ∧ s.connects .chain1Dscr .extest 1 ∧
        s.atCapture false false []) ∧
    (let s : State := halted 0x41C0 (cyc .captureDr 0b01100 1 false false);
      s.connects .intest .intest 1 ∧ s.connects .chain1Dscr .intest 1 ∧
        s.atCapture false false []) :=
  ⟨⟨.inl ⟨rfl, rfl, rfl, .inl rfl⟩, .inl ⟨rfl, rfl, rfl, .inr rfl⟩, ⟨⟨rfl, rfl⟩, rfl⟩⟩,
    ⟨.inr (.inl ⟨rfl, rfl, rfl, .inl rfl⟩), .inr (.inl ⟨rfl, rfl, rfl, .inr rfl⟩), ⟨⟨rfl, rfl⟩, rfl⟩⟩⟩

/-- The two refusals, and the four ways an update goes through. -/
theorem witness_Chain1Update :
    (let s : State := { cyc .exit1Dr 0 1 true false with ctl.s1 := 0x2000 };
      s.connects .extest .extest 1 ∧ s.connects .chain1Dscr .extest 1 ∧ s.entersUpdate false [] ∧
        s.ctl.s1.getLsbD 13 = true ∧ s.execEnabled = false ∧ s.core.debugState = false) ∧
    (let s : State := { halted 0x6000 (cyc .exit1Dr 0 1 true false) with dbg.instCompl := false };
      s.connects .extest .extest 1 ∧ s.entersUpdate false [] ∧
        s.ctl.s1.getLsbD 13 = false ∧ s.execEnabled = true ∧ s.dbg.instCompl = false) ∧
    (let s : State := { halted 0 (cyc .exit1Dr 0 1 true false) with ctl.s1 := 0x2000 };
      s.connects .extest .extest 1 ∧ s.entersUpdate false [] ∧
        s.ctl.s1.getLsbD 13 = true ∧ s.execEnabled = false ∧ s.core.debugState = true) ∧
    (let s : State := { halted 0x6000 (cyc .exit1Dr 0 1 true false) with ctl.s1 := 0x2000 };
      s.connects .extest .extest 1 ∧ s.entersUpdate false [] ∧
        s.ctl.s1.getLsbD 13 = true ∧ s.execEnabled = true) ∧
    (let s : State := halted 0x6000 (cyc .exit1Dr 0 1 true false);
      s.connects .extest .extest 1 ∧ s.entersUpdate false [] ∧
        s.ctl.s1.getLsbD 13 = false ∧ s.dbg.instCompl = true) ∧
    (let s : State := cyc .exit1Dr 0 1 true false;
      s.connects .extest .extest 1 ∧ s.entersUpdate false [] ∧
        s.ctl.s1.getLsbD 13 = false ∧ s.execEnabled = false) :=
  ⟨⟨.inl ⟨rfl, rfl, rfl, .inl rfl⟩, .inl ⟨rfl, rfl, rfl, .inr rfl⟩, ⟨⟨rfl, rfl⟩, .inl rfl⟩, rfl, rfl, rfl⟩,
    ⟨.inl ⟨rfl, rfl, rfl, .inl rfl⟩, ⟨⟨rfl, rfl⟩, .inl rfl⟩, rfl, rfl, rfl⟩,
    ⟨.inl ⟨rfl, rfl, rfl, .inl rfl⟩, ⟨⟨rfl, rfl⟩, .inl rfl⟩, rfl, rfl, rfl⟩,
    ⟨.inl ⟨rfl, rfl, rfl, .inl rfl⟩, ⟨⟨rfl, rfl⟩, .inl rfl⟩, rfl, rfl⟩,
    ⟨.inl ⟨rfl, rfl, rfl, .inl rfl⟩, ⟨⟨rfl, rfl⟩, .inl rfl⟩, rfl, rfl⟩,
    ⟨.inl ⟨rfl, rfl, rfl, .inl rfl⟩, ⟨⟨rfl, rfl⟩, .inl rfl⟩, rfl, rfl⟩⟩

theorem witness_Chain4 :
    (let s : State := cyc .captureDr 0b11101 1 false false;
      s.connects .itrsel .extest 4 ∧ s.atCapture false false []) ∧
    (let s : State := cyc .captureDr 0b01100 4 false false;
      s.connects .intest .intest 4 ∧ s.connects .chain4Itr .intest 4 ∧
        s.atCapture false false []) ∧
    (let s : State := { cyc .exit1Dr 0 4 true false with ctl.ready := true };
      s.connects .extest .extest 4 ∧ s.entersUpdate false [] ∧ s.ctl.ready = true) ∧
    (let s : State := cyc .exit2Dr 0b11101 1 true false;
      s.connects .itrsel .extest 4 ∧ s.entersUpdate false [] ∧ s.ctl.ready = false) :=
  ⟨⟨.inr (.inr ⟨rfl, rfl, rfl, .inl rfl⟩), ⟨⟨rfl, rfl⟩, rfl⟩⟩,
    ⟨.inr (.inl ⟨rfl, rfl, rfl, .inl rfl⟩), .inr (.inl ⟨rfl, rfl, rfl, .inr rfl⟩), ⟨⟨rfl, rfl⟩, rfl⟩⟩,
    ⟨.inl ⟨rfl, rfl, rfl, .inl rfl⟩, ⟨⟨rfl, rfl⟩, .inl rfl⟩, rfl⟩,
    ⟨.inr (.inr ⟨rfl, rfl, rfl, .inl rfl⟩), ⟨⟨rfl, rfl⟩, .inr rfl⟩, rfl⟩⟩

theorem witness_Chain5Capture :
    (let s : State := cyc .captureDr 0 5 false false;
      s.connects .extest .extest 5 ∧ s.connects .chain5Dtr .extest 5 ∧
        s.atCapture false false []) ∧
    (let s : State := cyc .captureDr 0b01100 5 false false;
      s.connects .intest .intest 5 ∧ s.connects .chain5Dtr .intest 5 ∧
        s.atCapture false false []) :=
  ⟨⟨.inl ⟨rfl, rfl, rfl, .inl rfl⟩, .inl ⟨rfl, rfl, rfl, .inr rfl⟩, ⟨⟨rfl, rfl⟩, rfl⟩⟩,
    ⟨.inr (.inl ⟨rfl, rfl, rfl, .inl rfl⟩), .inr (.inl ⟨rfl, rfl, rfl, .inr rfl⟩), ⟨⟨rfl, rfl⟩, rfl⟩⟩⟩

theorem witness_Chain5UpdateInDebugUse :
    (let s : State := { halted 0x6000 (cyc .exit1Dr 0 5 true false) with ctl.ready := true };
      s.connects .extest .extest 5 ∧ s.entersUpdate false [] ∧ s.execEnabled = true ∧
        s.ctl.ready = true) ∧
    (let s : State := { halted 0x6000 (cyc .exit1Dr 0 5 true false) with ctl.nRetry := true };
      s.connects .extest .extest 5 ∧ s.entersUpdate false [] ∧ s.execEnabled = true ∧
        s.ctl.ready = false) :=
  ⟨⟨.inl ⟨rfl, rfl, rfl, .inl rfl⟩, ⟨⟨rfl, rfl⟩, .inl rfl⟩, rfl, rfl⟩,
    ⟨.inl ⟨rfl, rfl, rfl, .inl rfl⟩, ⟨⟨rfl, rfl⟩, .inl rfl⟩, rfl, rfl⟩⟩

theorem witness_Chain5UpdateInDccUse :
    (let s : State := { cyc .exit1Dr 0 5 true false with ctl.nRetry := true };
      s.connects .extest .extest 5 ∧ s.entersUpdate false [] ∧ s.execEnabled = false ∧
        s.ctl.nRetry = true) ∧
    (let s : State := { cyc .exit1Dr 0 5 true false with ctl.ready := true };
      s.connects .extest .extest 5 ∧ s.entersUpdate false [] ∧ s.execEnabled = false ∧
        s.ctl.nRetry = false) :=
  ⟨⟨.inl ⟨rfl, rfl, rfl, .inl rfl⟩, ⟨⟨rfl, rfl⟩, .inl rfl⟩, rfl, rfl⟩,
    ⟨.inl ⟨rfl, rfl, rfl, .inl rfl⟩, ⟨⟨rfl, rfl⟩, .inl rfl⟩, rfl, rfl⟩⟩

theorem witness_UpdatesThatWriteNothing :
    (let s : State := cyc .exit1Dr 0 0 true false;
      s.entersUpdate false [] ∧ s.connects .extest .extest 0) ∧
    (let s : State := cyc .exit1Dr 0b01100 0 true false;
      s.entersUpdate false [] ∧ s.connects .intest .intest 0) ∧
    (let s : State := cyc .exit1Dr 0b01100 1 true false;
      s.entersUpdate false [] ∧ s.connects .intest .intest 1) ∧
    (let s : State := cyc .exit1Dr 0b01100 4 true false;
      s.entersUpdate false [] ∧ s.connects .intest .intest 4) ∧
    (let s : State := cyc .exit2Dr 0b01100 5 true false;
      s.entersUpdate false [] ∧ s.connects .intest .intest 5) :=
  ⟨⟨⟨⟨rfl, rfl⟩, .inl rfl⟩, .inl ⟨rfl, rfl, rfl, .inl rfl⟩⟩,
    ⟨⟨⟨rfl, rfl⟩, .inl rfl⟩, .inr (.inl ⟨rfl, rfl, rfl, .inl rfl⟩)⟩,
    ⟨⟨⟨rfl, rfl⟩, .inl rfl⟩, .inr (.inl ⟨rfl, rfl, rfl, .inl rfl⟩)⟩,
    ⟨⟨⟨rfl, rfl⟩, .inl rfl⟩, .inr (.inl ⟨rfl, rfl, rfl, .inl rfl⟩)⟩,
    ⟨⟨⟨rfl, rfl⟩, .inr rfl⟩, .inr (.inl ⟨rfl, rfl, rfl, .inl rfl⟩)⟩⟩

theorem witness_Chain6 :
    (let s : State := cyc .captureDr 0b01100 6 false false;
      s.connects .intest .intest 6 ∧ s.connects .chain6Etm .intest 6 ∧
        s.atCapture false false []) ∧
    (let s : State := cyc .exit1Dr 0b01100 6 true false;
      s.connects .intest .intest 6 ∧ s.entersUpdate false []) ∧
    (let s : State := cyc .captureDr 0 6 false false;
      s.connects .extest .extest 6 ∧ s.atCapture false false []) ∧
    (let s : State := cyc .exit1Dr 0 6 true false;
      s.connects .extest .extest 6 ∧ s.entersUpdate false []) :=
  ⟨⟨.inr (.inl ⟨rfl, rfl, rfl, .inl rfl⟩), .inr (.inl ⟨rfl, rfl, rfl, .inr rfl⟩), ⟨⟨rfl, rfl⟩, rfl⟩⟩,
    ⟨.inr (.inl ⟨rfl, rfl, rfl, .inl rfl⟩), ⟨⟨rfl, rfl⟩, .inl rfl⟩⟩,
    ⟨.inl ⟨rfl, rfl, rfl, .inl rfl⟩, ⟨⟨rfl, rfl⟩, rfl⟩⟩,
    ⟨.inl ⟨rfl, rfl, rfl, .inl rfl⟩, ⟨⟨rfl, rfl⟩, .inl rfl⟩⟩⟩

theorem witness_Chain7Capture :
    (let s : State := { cyc .captureDr 0 7 false false with dbg.rdData := some 5 };
      s.connects .extest .extest 7 ∧ s.connects .chain7DebugRegs .extest 7 ∧
        s.atCapture false false [] ∧ s.dbg.req = none ∧ s.dbg.rdData = some 5) ∧
    (let s : State := cyc .captureDr 0b01100 7 false false;
      s.connects .intest .intest 7 ∧ s.atCapture false false [] ∧
        s.dbg.req = none ∧ s.dbg.rdData = none) ∧
    (let s : State := { cyc .captureDr 0 7 false false with dbg.req := some ⟨64, 1, true⟩ };
      s.connects .extest .extest 7 ∧ s.atCapture false false [] ∧
        s.dbg.req = some ⟨64, 1, true⟩) :=
  ⟨⟨.inl ⟨rfl, rfl, rfl, .inl rfl⟩, .inl ⟨rfl, rfl, rfl, .inr rfl⟩, ⟨⟨rfl, rfl⟩, rfl⟩, rfl, rfl⟩,
    ⟨.inr (.inl ⟨rfl, rfl, rfl, .inl rfl⟩), ⟨⟨rfl, rfl⟩, rfl⟩, rfl, rfl⟩,
    ⟨.inl ⟨rfl, rfl, rfl, .inl rfl⟩, ⟨⟨rfl, rfl⟩, rfl⟩, rfl⟩⟩

theorem witness_Chain7Shift :
    (let s : State := cyc .shiftDr 0 7 false true;
      s.connects .chain7DebugRegs .extest 7 ∧ s.atShift false true [] ∧ s.ctl.reqReady = false) ∧
    (let s : State := { cyc .shiftDr 0b01100 7 false true with ctl.reqReady := true };
      s.connects .intest .intest 7 ∧ s.atShift false true [] ∧ s.ctl.reqReady = true) :=
  ⟨⟨.inl ⟨rfl, rfl, rfl, .inr rfl⟩, ⟨⟨rfl, rfl⟩, rfl⟩, rfl⟩,
    ⟨.inr (.inl ⟨rfl, rfl, rfl, .inl rfl⟩), ⟨⟨rfl, rfl⟩, rfl⟩, rfl⟩⟩

theorem witness_ChainShift :
    (let s : State := cyc .shiftDr 0 0 false true;
      s.atShift false true [] ∧ s.connects .extest .extest 0) ∧
    (let s : State := cyc .shiftDr 0b01100 1 false true;
      s.atShift false true [] ∧ s.connects .chain1Dscr .intest 1) ∧
    (let s : State := cyc .shiftDr 0b11101 1 false true;
      s.atShift false true [] ∧ s.connects .itrsel .extest 4) ∧
    (let s : State := cyc .shiftDr 0 5 true true;
      s.atShift true true [] ∧ s.connects .chain5Dtr .extest 5) ∧
    (let s : State := cyc .shiftDr 0b01100 6 true true;
      s.atShift true true [] ∧ s.connects .intest .intest 6) :=
  ⟨⟨⟨⟨rfl, rfl⟩, rfl⟩, .inl ⟨rfl, rfl, rfl, .inl rfl⟩⟩,
    ⟨⟨⟨rfl, rfl⟩, rfl⟩, .inr (.inl ⟨rfl, rfl, rfl, .inr rfl⟩)⟩,
    ⟨⟨⟨rfl, rfl⟩, rfl⟩, .inr (.inr ⟨rfl, rfl, rfl, .inl rfl⟩)⟩,
    ⟨⟨⟨rfl, rfl⟩, rfl⟩, .inl ⟨rfl, rfl, rfl, .inr rfl⟩⟩,
    ⟨⟨⟨rfl, rfl⟩, rfl⟩, .inr (.inl ⟨rfl, rfl, rfl, .inl rfl⟩)⟩⟩

/-- Thirty-two cycles in Shift-DR of scan chain 1. -/
def wordScan (v : Word) : State :=
  { cyc .shiftDr 0b00000 1 false false with
    env.inputs := (List.range 32).map (fun k => Input.tck (decide (k = 31)) (v.getLsbD k)) ++ [] }

/-- Under EXTEST and under INTEST, and the first and the last of the 32 bits shown. -/
theorem witness_ScanDelivers :
    (wordScan 0x00006001).pins.trst = false ∧ (wordScan 0x00006001).ctl.tap = .shiftDr ∧
    (wordScan 0x00006001).ctl.ir = 0b00000 ∧ (wordScan 0x00006001).ctl.screg = 1 ∧
    (wordScan 0x00006001).env.inputs =
      (List.range 32).map
        (fun k => Input.tck (decide (k = 31)) ((0x00006001 : Word).getLsbD k)) ++ [] ∧
    (let s : State := { wordScan 0x00006001 with ctl.ir := 0b01100 };
      s.ctl.ir = 0b01100 ∧ s.ctl.tap = .shiftDr ∧ s.ctl.screg = 1) ∧ 0 < 32 ∧ 31 < 32 :=
  ⟨rfl, rfl, rfl, rfl, rfl, ⟨rfl, rfl, rfl⟩, by decide, by decide⟩

/-- Both ends of every range of numbers, at Capture-DR and at entry to Run-Test/Idle. -/
theorem witness_UndescribedChains :
    (let s : State := cyc .captureDr 0 2 false false;
      s.connects .extest .extest 2 ∧ s.atCapture false false []) ∧
    (let s : State := cyc .captureDr 0b01100 3 false false;
      s.connects .intest .intest 3 ∧ s.atCapture false false []) ∧
    (let s : State := cyc .captureDr 0 8 false false;
      s.connects .extest .extest 8 ∧ s.atCapture false false []) ∧
    (let s : State := cyc .captureDr 0b01100 15 false false;
      s.connects .intest .intest 15 ∧ s.atCapture false false []) ∧
    (let s : State := cyc .captureDr 0 16 false false;
      s.connects .extest .extest 16 ∧ s.atCapture false false []) ∧
    (let s : State := cyc .captureDr 0b01100 31 false false;
      s.connects .intest .intest 31 ∧ s.atCapture false false []) ∧
    (let s : State := cyc .captureDr 0 31 false false;
      s.connects (.chain16To31 15) .extest 31 ∧ s.atCapture false false []) ∧
    (let s : State := cyc .updateIr 0 2 false false;
      s.connects (.chain2To3 0) .extest 2 ∧ s.entersIdle false []) ∧
    (let s : State := cyc .updateDr 0b01100 3 false false;
      s.connects (.chain2To3 1) .intest 3 ∧ s.entersIdle false []) ∧
    (let s : State := cyc .updateIr 0 8 false false;
      s.connects (.chain8To15 0) .extest 8 ∧ s.entersIdle false []) ∧
    (let s : State := cyc .updateIr 0 31 false false;
      s.connects (.chain16To31 15) .extest 31 ∧ s.entersIdle false []) :=
  ⟨⟨.inl ⟨rfl, rfl, rfl, .inl rfl⟩, ⟨⟨rfl, rfl⟩, rfl⟩⟩,
    ⟨.inr (.inl ⟨rfl, rfl, rfl, .inl rfl⟩), ⟨⟨rfl, rfl⟩, rfl⟩⟩,
    ⟨.inl ⟨rfl, rfl, rfl, .inl rfl⟩, ⟨⟨rfl, rfl⟩, rfl⟩⟩,
    ⟨.inr (.inl ⟨rfl, rfl, rfl, .inl rfl⟩), ⟨⟨rfl, rfl⟩, rfl⟩⟩,
    ⟨.inl ⟨rfl, rfl, rfl, .inl rfl⟩, ⟨⟨rfl, rfl⟩, rfl⟩⟩,
    ⟨.inr (.inl ⟨rfl, rfl, rfl, .inl rfl⟩), ⟨⟨rfl, rfl⟩, rfl⟩⟩,
    ⟨.inl ⟨rfl, rfl, rfl, .inr rfl⟩, ⟨⟨rfl, rfl⟩, rfl⟩⟩,
    ⟨.inl ⟨rfl, rfl, rfl, .inr rfl⟩, ⟨⟨rfl, rfl⟩, .inr rfl⟩⟩,
    ⟨.inr (.inl ⟨rfl, rfl, rfl, .inr rfl⟩), ⟨⟨rfl, rfl⟩, .inl rfl⟩⟩,
    ⟨.inl ⟨rfl, rfl, rfl, .inr rfl⟩, ⟨⟨rfl, rfl⟩, .inr rfl⟩⟩,
    ⟨.inl ⟨rfl, rfl, rfl, .inr rfl⟩, ⟨⟨rfl, rfl⟩, .inr rfl⟩⟩⟩

theorem witness_Issue :
    (let s : State := { halted 0x6000 (cyc .updateDr 0b11101 1 false false) with ctl.ready := true };
      s.connects .itrsel .extest 4 ∧ s.connects .chain4Itr .extest 4 ∧ s.entersIdle false [] ∧
        s.core.debugState = true ∧ s.execEnabled = true ∧ s.ctl.ready = true ∧
        s.stickyPreciseAbort = false ∧ s.dbg.instCompl = true) ∧
    (let s : State := { halted 0x6000 (cyc .updateDr 0b01100 5 false false) with ctl.ready := true };
      s.connects .intest .intest 5 ∧ s.entersIdle false [] ∧
        s.core.debugState = true ∧ s.execEnabled = true ∧ s.ctl.ready = true ∧
        s.stickyPreciseAbort = false ∧ s.dbg.instCompl = true) ∧
    (let s : State := { halted 0x6000 (cyc .updateDr 0 5 false false) with ctl.ready := true };
      s.connects .chain5Dtr .extest 5 ∧ s.entersIdle false [] ∧
        s.core.debugState = true ∧ s.execEnabled = true ∧ s.ctl.ready = true ∧
        s.stickyPreciseAbort = false ∧ s.dbg.instCompl = true) :=
  ⟨⟨.inr (.inr ⟨rfl, rfl, rfl, .inl rfl⟩), .inr (.inr ⟨rfl, rfl, rfl, .inr rfl⟩), ⟨⟨rfl, rfl⟩, .inl rfl⟩, rfl, rfl, rfl, rfl, rfl⟩,
    ⟨.inr (.inl ⟨rfl, rfl, rfl, .inl rfl⟩), ⟨⟨rfl, rfl⟩, .inl rfl⟩, rfl, rfl, rfl, rfl, rfl⟩,
    ⟨.inl ⟨rfl, rfl, rfl, .inr rfl⟩, ⟨⟨rfl, rfl⟩, .inl rfl⟩, rfl, rfl, rfl, rfl, rfl⟩⟩

theorem witness_NoIssue :
    (let s : State := cyc .updateDr 0 4 false false;
      s.entersIdle false [] ∧ s.connects .extest .extest 4 ∧ s.core.debugState = false) ∧
    (let s : State := halted 0 (cyc .updateIr 0b01100 5 false false);
      s.entersIdle false [] ∧ s.connects .intest .intest 5 ∧ s.execEnabled = false) ∧
    (let s : State := halted 0x6000 (cyc .updateDr 0 4 false false);
      s.entersIdle false [] ∧ s.connects .extest .extest 4 ∧ s.ctl.ready = false) ∧
    (let s : State := { halted 0x6040 (cyc .updateDr 0 4 false false) with ctl.ready := true };
      s.entersIdle false [] ∧ s.connects .extest .extest 4 ∧ s.stickyPreciseAbort = true) ∧
    (let s : State := { halted 0x6000 (cyc .updateDr 0 4 false false) with ctl.ready := true, dbg.instCompl := false };
      s.connects .extest .extest 4 ∧ s.entersIdle false [] ∧
        s.core.debugState = true ∧ s.execEnabled = true ∧ s.ctl.ready = true ∧
        s.stickyPreciseAbort = false ∧ s.dbg.instCompl = false) ∧
    (let s : State := cyc .updateDr 0 0 false false;
      s.entersIdle false [] ∧ s.connects .extest .extest 0) ∧
    (let s : State := cyc .updateDr 0b01100 1 false false;
      s.entersIdle false [] ∧ s.connects .intest .intest 1) ∧
    (let s : State := cyc .updateDr 0 6 false false;
      s.entersIdle false [] ∧ s.connects .chain6Etm .extest 6) ∧
    (let s : State := cyc .updateDr 0 7 false false;
      s.entersIdle false [] ∧ s.connects .chain7DebugRegs .extest 7) :=
  ⟨⟨⟨⟨rfl, rfl⟩, .inl rfl⟩, .inl ⟨rfl, rfl, rfl, .inl rfl⟩, rfl⟩,
    ⟨⟨⟨rfl, rfl⟩, .inr rfl⟩, .inr (.inl ⟨rfl, rfl, rfl, .inl rfl⟩), rfl⟩,
    ⟨⟨⟨rfl, rfl⟩, .inl rfl⟩, .inl ⟨rfl, rfl, rfl, .inl rfl⟩, rfl⟩,
    ⟨⟨⟨rfl, rfl⟩, .inl rfl⟩, .inl ⟨rfl, rfl, rfl, .inl rfl⟩, rfl⟩,
    ⟨.inl ⟨rfl, rfl, rfl, .inl rfl⟩, ⟨⟨rfl, rfl⟩, .inl rfl⟩, rfl, rfl, rfl, rfl, rfl⟩,
    ⟨⟨⟨rfl, rfl⟩, .inl rfl⟩, .inl ⟨rfl, rfl, rfl, .inl rfl⟩⟩,
    ⟨⟨⟨rfl, rfl⟩, .inl rfl⟩, .inr (.inl ⟨rfl, rfl, rfl, .inl rfl⟩)⟩,
    ⟨⟨⟨rfl, rfl⟩, .inl rfl⟩, .inl ⟨rfl, rfl, rfl, .inr rfl⟩⟩,
    ⟨⟨⟨rfl, rfl⟩, .inl rfl⟩, .inl ⟨rfl, rfl, rfl, .inr rfl⟩⟩⟩

theorem witness_Chain7Update :
    (let s : State := place 64 3 true false;
      s.connects .extest .extest 7 ∧ s.connects .chain7DebugRegs .extest 7 ∧ s.entersUpdate false [] ∧
        s.ctl.s7 = ((64 : BitVec 7) ++ (3 : Word)) ++ BitVec.ofBool true ∧ s.ctl.reqReady = false) ∧
    (let s : State := place 0 3 true true;
      s.connects .extest .extest 7 ∧ s.connects .chain7DebugRegs .extest 7 ∧ s.entersUpdate false [] ∧
        s.ctl.s7 = ((0 : BitVec 7) ++ (3 : Word)) ++ BitVec.ofBool true ∧ s.ctl.reqReady = true) ∧
    (let s : State := place 7 3 true true;
      s.connects .extest .extest 7 ∧ s.connects .chain7DebugRegs .extest 7 ∧ s.entersUpdate false [] ∧
        s.ctl.s7 = ((7 : BitVec 7) ++ (3 : Word)) ++ BitVec.ofBool true ∧ s.ctl.reqReady = true) ∧
    (let s : State := place 113 3 true true;
      s.connects .extest .extest 7 ∧ s.connects .chain7DebugRegs .extest 7 ∧ s.entersUpdate false [] ∧
        s.ctl.s7 = ((113 : BitVec 7) ++ (3 : Word)) ++ BitVec.ofBool true ∧ s.ctl.reqReady = true) ∧
    (let s : State := place 9 3 true true;
      s.connects .extest .extest 7 ∧ s.connects .chain7DebugRegs .extest 7 ∧ s.entersUpdate false [] ∧
        s.ctl.s7 = ((9 : BitVec 7) ++ (3 : Word)) ++ BitVec.ofBool true ∧ s.ctl.reqReady = true) ∧
    (let s : State := place 127 3 true true;
      s.connects .extest .extest 7 ∧ s.connects .chain7DebugRegs .extest 7 ∧ s.entersUpdate false [] ∧
        s.ctl.s7 = ((127 : BitVec 7) ++ (3 : Word)) ++ BitVec.ofBool true ∧ s.ctl.reqReady = true) :=
  ⟨⟨.inl ⟨rfl, rfl, rfl, .inl rfl⟩, .inl ⟨rfl, rfl, rfl, .inr rfl⟩, ⟨⟨rfl, rfl⟩, .inl rfl⟩, rfl, rfl⟩,
    ⟨.inl ⟨rfl, rfl, rfl, .inl rfl⟩, .inl ⟨rfl, rfl, rfl, .inr rfl⟩, ⟨⟨rfl, rfl⟩, .inl rfl⟩, rfl, rfl⟩,
    ⟨.inl ⟨rfl, rfl, rfl, .inl rfl⟩, .inl ⟨rfl, rfl, rfl, .inr rfl⟩, ⟨⟨rfl, rfl⟩, .inl rfl⟩, rfl, rfl⟩,
    ⟨.inl ⟨rfl, rfl, rfl, .inl rfl⟩, .inl ⟨rfl, rfl, rfl, .inr rfl⟩, ⟨⟨rfl, rfl⟩, .inl rfl⟩, rfl, rfl⟩,
    ⟨.inl ⟨rfl, rfl, rfl, .inl rfl⟩, .inl ⟨rfl, rfl, rfl, .inr rfl⟩, ⟨⟨rfl, rfl⟩, .inl rfl⟩, rfl, rfl⟩,
    ⟨.inl ⟨rfl, rfl, rfl, .inl rfl⟩, .inl ⟨rfl, rfl, rfl, .inr rfl⟩, ⟨⟨rfl, rfl⟩, .inl rfl⟩, rfl, rfl⟩⟩

/-- No address falls under two clauses of the statement above: the boundaries of every range. -/
theorem witness_Chain7Update_ranges :
    (∀ a ∈ ([1, 6, 9, 18, 19, 63, 70, 79, 86, 95, 98, 111, 114, 127] : List (BitVec 7)),
      a ≠ 0 ∧ a.toNat ∉
        [7, 8, 64, 65, 66, 67, 68, 69, 80, 81, 82, 83, 84, 85, 96, 97, 112, 113]) ∧
    (0 : BitVec 7).toNat ∉
      [7, 8, 64, 65, 66, 67, 68, 69, 80, 81, 82, 83, 84, 85, 96, 97, 112, 113] := by decide

theorem witness_RegisterRequestsPlaced :
    (let s : State := place 7 3 true true;
      s.entersUpdate false [] ∧ s.ctl.reqReady = true) ∧
    (let s : State := place 7 3 true false;
      s.entersUpdate false [] ∧ s.ctl.reqReady = false) :=
  ⟨⟨⟨⟨rfl, rfl⟩, .inl rfl⟩, rfl⟩,
    ⟨⟨⟨rfl, rfl⟩, .inl rfl⟩, rfl⟩⟩

theorem witness_NullRequest :
    (let s : State := place 0 3 true true;
      s.entersUpdate false []) :=
  ⟨⟨rfl, rfl⟩, .inl rfl⟩

theorem witness_ReservedRequests :
    (let s : State := place 9 3 false true;
      s.entersUpdate false [] ∧ s.ctl.reqReady = true) ∧
    (let s : State := place 9 3 false false;
      s.entersUpdate false [] ∧ s.ctl.reqReady = false) :=
  ⟨⟨⟨⟨rfl, rfl⟩, .inl rfl⟩, rfl⟩,
    ⟨⟨⟨rfl, rfl⟩, .inl rfl⟩, rfl⟩⟩

theorem witness_ReadRequestCompletes :
    (let s : State := serve 8 0 false;
      s.env.inputs = [.engine] ∧ s.dbg.req = some ⟨8, 0, false⟩) ∧
    (let s : State := serve 113 0 false;
      s.env.inputs = [.engine] ∧ s.dbg.req = some ⟨113, 0, false⟩) :=
  ⟨⟨rfl, rfl⟩,
    ⟨rfl, rfl⟩⟩

theorem witness_WriteRequestCompletes :
    (let s : State := serve 7 9 true;
      s.env.inputs = [.engine] ∧ s.dbg.req = some ⟨7, 9, true⟩) ∧
    (let s : State := serve 113 9 true;
      s.env.inputs = [.engine] ∧ s.dbg.req = some ⟨113, 9, true⟩) :=
  ⟨⟨rfl, rfl⟩,
    ⟨rfl, rfl⟩⟩

/-- Not permitted in any state, and permitted in each of the three processor states. -/
theorem witness_PcSample :
    (let s : State := halted 0 State.reset;
      s.core.debugState = true) ∧
    (let s : State := { State.reset with cfg.nonInvasivePermitted := Vector.replicate 16 0 };
      s.nonInvasivePermitted = false) ∧
    (let s : State := State.reset;
      s.core.debugState = false ∧ s.nonInvasivePermitted = true ∧
        s.core.regs.committedIsa = .arm) ∧
    (let s : State := { State.reset with core.regs.committedIsa := .thumb };
      s.core.debugState = false ∧ s.nonInvasivePermitted = true ∧ s.core.regs.committedIsa = .thumb) ∧
    (let s : State := { State.reset with core.regs.committedIsa := .jazelle };
      s.core.debugState = false ∧ s.nonInvasivePermitted = true ∧
        s.core.regs.committedIsa = .jazelle) := by decide

/-- Each register file at one end. -/
theorem witness_WriteRequestReachesRegister :
    (let s : State := { place 7 3 true true with env.inputs := [.tck true false, .engine] };
      s.entersUpdate false [.engine] ∧ s.ctl.reqReady = true ∧ s.connects .extest .extest 7 ∧
        s.ctl.s7 = ((7 : BitVec 7) ++ (3 : Word)) ++ 1#1) ∧
    (let s : State := { place 69 3 true true with env.inputs := [.tck true false, .engine] };
      s.entersUpdate false [.engine] ∧ s.ctl.reqReady = true ∧ s.connects .extest .extest 7 ∧
        s.ctl.s7 = (BitVec.ofNat 7 (64 + 5) ++ (3 : Word)) ++ 1#1) ∧
    (let s : State := { place 80 3 true true with env.inputs := [.tck true false, .engine] };
      s.entersUpdate false [.engine] ∧ s.ctl.reqReady = true ∧ s.connects .extest .extest 7 ∧
        s.ctl.s7 = (BitVec.ofNat 7 (80 + 0) ++ (3 : Word)) ++ 1#1) ∧
    (let s : State := { place 97 3 true true with env.inputs := [.tck true false, .engine] };
      s.entersUpdate false [.engine] ∧ s.ctl.reqReady = true ∧ s.connects .extest .extest 7 ∧
        s.ctl.s7 = (BitVec.ofNat 7 (96 + 1) ++ (3 : Word)) ++ 1#1) ∧
    (let s : State := { place 112 3 true true with env.inputs := [.tck true false, .engine] };
      s.entersUpdate false [.engine] ∧ s.ctl.reqReady = true ∧ s.connects .extest .extest 7 ∧
        s.ctl.s7 = (BitVec.ofNat 7 (112 + 0) ++ (3 : Word)) ++ 1#1) :=
  ⟨⟨⟨⟨rfl, rfl⟩, .inl rfl⟩, rfl, .inl ⟨rfl, rfl, rfl, .inl rfl⟩, rfl⟩,
    ⟨⟨⟨rfl, rfl⟩, .inl rfl⟩, rfl, .inl ⟨rfl, rfl, rfl, .inl rfl⟩, rfl⟩,
    ⟨⟨⟨rfl, rfl⟩, .inl rfl⟩, rfl, .inl ⟨rfl, rfl, rfl, .inl rfl⟩, rfl⟩,
    ⟨⟨⟨rfl, rfl⟩, .inl rfl⟩, rfl, .inl ⟨rfl, rfl, rfl, .inl rfl⟩, rfl⟩,
    ⟨⟨⟨rfl, rfl⟩, .inl rfl⟩, rfl, .inl ⟨rfl, rfl, rfl, .inl rfl⟩, rfl⟩⟩

/-- Permitted, no request, already halted, and a request made before DBGEN was deasserted. -/
theorem witness_HaltStepEntersDebugState :
    (let s : State := { inp .coreHalt with core.haltReq := true };
      s.env.inputs = [.coreHalt] ∧ s.core.haltReq = true ∧ s.core.debugState = false ∧
        s.debugPermitted = true) ∧
    (let s : State := inp .coreHalt;
      s.env.inputs = [.coreHalt] ∧ s.core.haltReq = false) ∧
    (let s : State := halted 0 (inp .coreHalt);
      s.env.inputs = [.coreHalt] ∧ s.core.debugState = true) ∧
    (let s : State := { inp .coreHalt with core.haltReq := true, pins.dbgen := false };
      s.env.inputs = [.coreHalt] ∧ s.debugPermitted = false) :=
  ⟨⟨rfl, rfl, rfl, by decide⟩,
    ⟨rfl, rfl⟩,
    ⟨rfl, rfl⟩,
    ⟨rfl, by decide⟩⟩

theorem witness_EdbgrqRequestsHalt :
    (let s : State := inp (.edbgrq true);
      s.env.inputs = [.edbgrq true]) ∧
    (let s : State := inp (.dbgen false);
      s.env.inputs = [.dbgen false]) :=
  ⟨rfl,
    rfl⟩

theorem witness_RestartStep :
    (let s : State := { halted 0x4000 (inp .coreRestart) with core.restartReq := true };
      s.env.inputs = [.coreRestart] ∧ s.core.restartReq = true ∧ s.execEnabled = false) ∧
    (let s : State := { halted 0x6000 (inp .coreRestart) with core.restartReq := true };
      s.env.inputs = [.coreRestart] ∧ s.core.restartReq = true ∧ s.execEnabled = true) ∧
    (let s : State := inp .coreRestart;
      s.env.inputs = [.coreRestart] ∧ s.core.restartReq = false) :=
  ⟨⟨rfl, rfl, rfl⟩,
    ⟨rfl, rfl, rfl⟩,
    ⟨rfl, rfl⟩⟩

theorem witness_SoftwareDebugEvents :
    (let s : State := halted 0 (inp (.softwareDebugEvent .bkpt));
      s.env.inputs = [.softwareDebugEvent .bkpt] ∧ s.core.debugState = true) ∧
    (let s : State := { inp (.softwareDebugEvent .bkpt) with dbg.dscrBits := 0x4000 };
      s.env.inputs = [.softwareDebugEvent .bkpt] ∧ s.core.debugState = false ∧
        s.dbg.dscrBits.getLsbD 14 = true ∧ s.debugPermitted = true) ∧
    (let s : State := { inp (.softwareDebugEvent .bkpt) with dbg.dscrBits := 0x8000 };
      s.env.inputs = [.softwareDebugEvent .bkpt] ∧ s.core.debugState = false ∧
        s.dbg.dscrBits.getLsbD 15 = true ∧ s.dbg.dscrBits.getLsbD 14 = false) ∧
    (let s : State := { inp (.softwareDebugEvent .bkpt) with dbg.dscrBits := 0xC000, pins.dbgen := false };
      s.env.inputs = [.softwareDebugEvent .bkpt] ∧ s.core.debugState = false ∧
        s.dbg.dscrBits.getLsbD 14 = true ∧ s.debugPermitted = false) ∧
    (let s : State := inp (.softwareDebugEvent .bkpt);
      s.env.inputs = [.softwareDebugEvent .bkpt] ∧ s.core.debugState = false ∧
        s.dbg.dscrBits.getLsbD 15 = false ∧ s.dbg.dscrBits.getLsbD 14 = false) :=
  ⟨⟨rfl, rfl⟩,
    ⟨rfl, rfl, rfl, by decide⟩,
    ⟨rfl, rfl, rfl, rfl⟩,
    ⟨rfl, rfl, rfl, by decide⟩,
    ⟨rfl, rfl, rfl, rfl⟩⟩

/-- R0 and R14, and R15 for the flags. -/
theorem witness_DtrTransfers :
    (let s : State := flying 0xEE000E15 7 false;
      s.completing (0xEE00#16 ++ ((0 : BitVec 4) ++ 0xE15#12)) false [] ∧
        s.core.regs.readGpr 0 = some 7) ∧
    (let s : State := flying 0xEE00EE15 7 false;
      s.completing (0xEE00#16 ++ ((14 : BitVec 4) ++ 0xE15#12)) false [] ∧
        s.core.regs.readGpr 14 = some 0) ∧
    (let s : State := flying 0xEE10EE15 7 false;
      s.completing (0xEE10#16 ++ ((14 : BitVec 4) ++ 0xE15#12)) false [] ∧
        ∃ c, s.core.regs.writeGpr 14 s.dbg.rdtr = some c) ∧
    (let s : State := flying 0xEE10FE15 7 false;
      s.completing 0xEE10FE15 false []) :=
  ⟨⟨⟨rfl, rfl⟩, rfl⟩,
    ⟨⟨rfl, rfl⟩, rfl⟩,
    ⟨⟨rfl, rfl⟩, _, rfl⟩,
    ⟨rfl, rfl⟩⟩

/-- The MCR with R15, and the word 0 of the polling scans, to which the source gives no effect. -/
theorem witness_UndefinedSetsStickyFlag :
    (let s : State := flying 0xEE00FE15 0 false;
      s.completing 0xEE00FE15 false [] ∧ s.core.debugState = true) ∧
    (let s : State := flying 0 0 false;
      s.completing 0 false [] ∧ s.core.debugState = true ∧ decodeArm 0 = .other ∧ 0 ≠ s.cfg.nopWord) :=
  ⟨⟨⟨rfl, rfl⟩, rfl⟩, ⟨⟨rfl, rfl⟩, rfl, by decide, by decide⟩⟩

/-- A word held in memory in either byte order, and the last word of the address space. -/
theorem witness_WordTransfers :
    (let s : State := flying 0xECB05E01 0x1000 false;
      s.core.regs.r0 &&& 3 = 0 ∧ s.completing 0xECB05E01 false []) ∧
    (∀ e : Bool,
      let s : State := { flying 0xECB05E01 0x1000 false with
        core.mem := [(0x1000, 1), (0x1001, 2), (0x1002, 3), (0x1003, 4)], core.regs.bigEndian := e };
      s.core.regs.r0 &&& 3 = 0 ∧ s.core.inFlight = some 0xECB05E01 ∧
        s.env.inputs = [.coreComplete false] ∧
        ∀ k : Fin 4, Memory.read s.core.mem (s.core.regs.r0.toNat + k) =
          some ((if e then 0x01020304 else 0x04030201 : Word).extractLsb' (if e then 24 - 8 * k else 8 * k) 8)) ∧
    (let s : State := flying 0xECA05E01 0xFFFFFFFC false;
      s.core.regs.r0 &&& 3 = 0 ∧ s.completing 0xECA05E01 false []) :=
  ⟨⟨rfl, rfl, rfl⟩, by decide, ⟨rfl, rfl, rfl⟩⟩

theorem witness_PreciseAbortSetsStickyFlag :
    (let s : State := flying 0xECB05E01 0x1008 true;
      s.completing 0xECB05E01 true [] ∧ s.core.debugState = true ∧ s.execEnabled = true ∧
        s.core.regs.r0 &&& 3 = 0) ∧
    (let s : State := flying 0xECA05E01 0xFFFFFFFC true;
      s.completing 0xECA05E01 true [] ∧ s.core.debugState = true ∧ s.execEnabled = true ∧
        s.core.regs.r0 &&& 3 = 0) ∧
    (let s : State := flying 0xE0D010B2 2 true;
      s.completing 0xE0D010B2 true [] ∧ s.core.debugState = true ∧ s.execEnabled = true ∧
        s.core.regs.r0 &&& 1 = 0) ∧
    (let s : State := flying 0xE0C010B2 2 true;
      s.completing 0xE0C010B2 true [] ∧ s.core.debugState = true ∧ s.execEnabled = true ∧
        s.core.regs.r0 &&& 1 = 0) ∧
    (let s : State := flying 0xE4D01001 1 true;
      s.completing 0xE4D01001 true [] ∧ s.core.debugState = true ∧ s.execEnabled = true) ∧
    (let s : State := flying 0xE4C01001 1 true;
      s.completing 0xE4C01001 true [] ∧ s.core.debugState = true ∧ s.execEnabled = true) :=
  ⟨⟨⟨rfl, rfl⟩, rfl, rfl, rfl⟩,
    ⟨⟨rfl, rfl⟩, rfl, rfl, rfl⟩,
    ⟨⟨rfl, rfl⟩, rfl, rfl, rfl⟩,
    ⟨⟨rfl, rfl⟩, rfl, rfl, rfl⟩,
    ⟨⟨rfl, rfl⟩, rfl, rfl⟩,
    ⟨⟨rfl, rfl⟩, rfl, rfl⟩⟩

/-- At the last halfword and byte of the address space, held in memory and not. -/
theorem witness_HalfwordAndByteTransfers :
    (let s : State := flying 0xE0D010B2 0xFFFFFFFE false;
      s.completing 0xE0D010B2 false [] ∧ s.core.regs.r0 &&& 1 = 0) ∧
    (∀ e : Bool,
      let s : State := { flying 0xE0D010B2 0xFFFFFFFE false with
        core.mem := [(0xFFFFFFFE, 1), (0xFFFFFFFF, 2)], core.regs.bigEndian := e };
      s.core.regs.r0 &&& 1 = 0 ∧ s.core.inFlight = some 0xE0D010B2 ∧
        s.env.inputs = [.coreComplete false] ∧
        ∀ k : Fin 2, Memory.read s.core.mem (s.core.regs.r0.toNat + k) =
          some ((if e then 0x0102 else 0x0201 : BitVec 16).extractLsb' (if e then 8 - 8 * k else 8 * k) 8)) ∧
    (let s : State := { flying 0xE4D01001 0xFFFFFFFF false with core.mem := [(0xFFFFFFFF, 0x80)] };
      s.completing 0xE4D01001 false [] ∧ Memory.read s.core.mem s.core.regs.r0.toNat = some 0x80) ∧
    (let s : State := flying 0xE0C010B2 0xFFFFFFFE false;
      s.completing 0xE0C010B2 false [] ∧ s.core.regs.r0 &&& 1 = 0) ∧
    (let s : State := flying 0xE4C01001 0xFFFFFFFF false;
      s.completing 0xE4C01001 false []) :=
  ⟨⟨⟨rfl, rfl⟩, rfl⟩,
    by decide,
    ⟨⟨rfl, rfl⟩, by decide⟩,
    ⟨⟨rfl, rfl⟩, rfl⟩,
    ⟨rfl, rfl⟩⟩

theorem witness_StatusAndPcMoves :
    (let s : State := flying 0xE10F0000 0 false;
      s.completing 0xE10F0000 false []) ∧
    (let s : State := flying 0xE14F0000 0 false;
      s.completing 0xE14F0000 false [] ∧ spsrIndex (cpsrMode s.core.regs.cpsr) = some 2) ∧
    (let s : State := { flying 0xE12FF000 0x13 false with pins.spiden := true, core.regs.cpsr := 0x10 };
      s.completing 0xE12FF000 false [] ∧ s.pins.spiden = true ∧
        (s.cfg.modePermitted.get (BitVec.ofBool s.pins.dbgen ++ (BitVec.ofBool s.pins.spiden ++
          (BitVec.ofBool s.core.regs.suiden ++ BitVec.ofBool s.core.regs.nonSecure))).toFin).getLsbD
            (s.core.regs.r0.extractLsb' 0 5).toNat = true) ∧
    (let s : State := { flying 0xE129F000 0x1F false with core.regs.nonSecure := true, core.regs.cpsr := 0x10 };
      s.completing 0xE129F000 false [] ∧ s.core.regs.nonSecure = true ∧
        (s.cfg.modePermitted.get (BitVec.ofBool s.pins.dbgen ++ (BitVec.ofBool s.pins.spiden ++
          (BitVec.ofBool s.core.regs.suiden ++ BitVec.ofBool s.core.regs.nonSecure))).toFin).getLsbD
            (s.core.regs.r0.extractLsb' 0 5).toNat = true) ∧
    (let s : State := { flying 0xE129F000 0xF0000013 false with cfg.modePermitted := Vector.replicate 16 0 };
      s.completing 0xE129F000 false [] ∧ s.core.regs.nonSecure = false ∧ s.pins.spiden = false ∧
        s.core.regs.cpsr.extractLsb' 0 5 ≠ 0x10#5 ∧
        s.core.regs.r0.extractLsb' 0 5 = s.core.regs.cpsr.extractLsb' 0 5) ∧
    (let s : State := flying 0xE16FF000 5 false;
      s.completing 0xE16FF000 false [] ∧ spsrIndex (cpsrMode s.core.regs.cpsr) = some 2) ∧
    (let s : State := flying 0xE1A0000F 5 false;
      s.completing 0xE1A0000F false [] ∧ s.core.entryIsa = .arm) ∧
    (let s : State := { flying 0xE1A0000F 5 false with core.entryIsa := .thumb };
      s.completing 0xE1A0000F false [] ∧ s.core.entryIsa = .thumb) ∧
    (let s : State := { flying 0xE1A0000F 5 false with core.entryIsa := .jazelle };
      s.completing 0xE1A0000F false [] ∧ s.core.entryIsa = .jazelle) ∧
    (let s : State := flying 0xE1A0F000 5 false;
      s.completing 0xE1A0F000 false []) ∧
    (let s : State := flying 0xEE101E11 5 false;
      s.completing (0xEE10#16 ++ ((1 : BitVec 4) ++ 0xE11#12)) false [] ∧
        ∃ c, s.core.regs.writeGpr 1 s.dscr = some c) ∧
    (let s : State := flying 0xEE110F10 5 false;
      s.completing 0xEE110F10 false [] ∧ decodeArm 0xEE110F10 = .coprocRead ∧ s.core.debugState = true) ∧
    (let s : State := flying 0xEE010F10 5 false;
      s.completing 0xEE010F10 false [] ∧ decodeArm 0xEE010F10 = .coprocWrite ∧ s.core.debugState = true) ∧
    (let s : State := flying 0xE12FF000 5 false;
      s.completing 0xE12FF000 false [] ∧ decodeArm 0xE12FF000 ≠ .other ∧ decodeArm 0xE12FF000 ≠ .movToPc) :=
  ⟨⟨rfl, rfl⟩,
    ⟨⟨rfl, rfl⟩, rfl⟩,
    ⟨⟨rfl, rfl⟩, rfl, by decide⟩,
    ⟨⟨rfl, rfl⟩, rfl, by decide⟩,
    ⟨⟨rfl, rfl⟩, rfl, rfl, by decide, by decide⟩,
    ⟨⟨rfl, rfl⟩, rfl⟩,
    ⟨⟨rfl, rfl⟩, rfl⟩,
    ⟨⟨rfl, rfl⟩, rfl⟩,
    ⟨⟨rfl, rfl⟩, rfl⟩,
    ⟨rfl, rfl⟩,
    ⟨⟨rfl, rfl⟩, _, rfl⟩,
    ⟨⟨rfl, rfl⟩, by decide, rfl⟩,
    ⟨⟨rfl, rfl⟩, by decide, rfl⟩,
    ⟨⟨rfl, rfl⟩, by decide, by decide⟩⟩

/-- Recognition in and outside Debug state and with none pending; the NOP with aborts pending and with none,
after the barrier and without it. -/
theorem witness_ImpreciseAborts :
    (let s : State := { halted 0x6000 (inp .impreciseAbortRecognised) with core.pendingAborts := 1 };
      s.env.inputs = [.impreciseAbortRecognised] ∧ s.core.debugState = true ∧ 0 < s.core.pendingAborts) ∧
    (let s : State := { inp .impreciseAbortRecognised with core.pendingAborts := 1 };
      s.env.inputs = [.impreciseAbortRecognised] ∧ s.core.debugState = false ∧ 0 < s.core.pendingAborts) ∧
    (let s : State := inp .impreciseAbortRecognised;
      s.env.inputs = [.impreciseAbortRecognised] ∧ s.core.pendingAborts = 0) ∧
    (inp .coreSetsDscr19).env.inputs = [.coreSetsDscr19] ∧
    (let s : State := flying 0xEE070F9A 0 false;
      s.completing (0xEE07#16 ++ ((0 : BitVec 4) ++ 0xF9A#12)) false []) ∧
    (let s : State := { flying 0xE1A00000 0 false with core.drained := true, core.pendingAborts := 2 };
      s.completing s.cfg.nopWord false [] ∧ decodeArm s.cfg.nopWord = .other ∧ s.core.drained = true) ∧
    (let s : State := flying 0xE1A00000 0 false;
      s.completing s.cfg.nopWord false [] ∧ decodeArm s.cfg.nopWord = .other ∧ s.core.drained = false) ∧
    (let s : State := { inp (.impreciseAbortArises 1 []) with core.drained := true };
      s.env.inputs = [.impreciseAbortArises 1 []] ∧ s.core.drained = true) ∧
    (let s : State := halted 0 (inp (.impreciseAbortArises 1 [(8, 9)]));
      s.env.inputs = [.impreciseAbortArises 1 [(8, 9)]] ∧ s.core.drained = false) :=
  ⟨⟨rfl, rfl, Nat.one_pos⟩,
    ⟨rfl, rfl, Nat.one_pos⟩,
    ⟨rfl, rfl⟩,
    rfl,
    ⟨rfl, rfl⟩,
    ⟨⟨rfl, rfl⟩, by decide, rfl⟩,
    ⟨⟨rfl, rfl⟩, by decide, rfl⟩,
    ⟨rfl, rfl⟩,
    ⟨rfl, rfl⟩⟩

theorem witness_DebugStateIgnores :
    (let s : State := halted 0 (inp (.interrupt ⟨CoreRegs.reset, []⟩));
      s.env.inputs = [.interrupt ⟨CoreRegs.reset, []⟩] ∧ s.core.debugState = true) ∧
    (let s : State := halted 0 (inp (.coreRuns ⟨CoreRegs.reset, []⟩ none));
      s.env.inputs = [.coreRuns ⟨CoreRegs.reset, []⟩ none] ∧ s.core.debugState = true) ∧
    (let s : State := halted 0 (inp (.softwareDebugEvent .watchpoint));
      s.env.inputs = [.softwareDebugEvent .watchpoint] ∧ s.core.debugState = true) ∧
    (let s : State := halted 0 (inp (.coreHalt));
      s.env.inputs = [.coreHalt] ∧ s.core.debugState = true) ∧
    (let s : State := halted 0 (inp (.softwareDcc .stc false));
      s.env.inputs = [.softwareDcc .stc false] ∧ s.core.debugState = true) :=
  ⟨⟨rfl, rfl⟩,
    ⟨rfl, rfl⟩,
    ⟨rfl, rfl⟩,
    ⟨rfl, rfl⟩,
    ⟨rfl, rfl⟩⟩

/-- A core in User mode, with these stored DSCR bits and one input to come. -/
def user (dscr : Word) (e : Input) : State :=
  { inp e with dbg.dscrBits := dscr, core.regs.cpsr := 0x10 }

/-- Each access from User mode with DSCR[12] = 0; with DSCR[12] = 1 from a privileged mode and from User mode. -/
theorem witness_SoftwareDccAccess :
    (let s : State := user 0 (.softwareDcc (.mcr 14) false);
      s.core.debugState = false ∧ s.dbg.dscrBits.getLsbD 12 = false ∧
        s.env.inputs = [.softwareDcc (.mcr 14) false] ∧ ∃ v, s.core.regs.readGpr 14 = some v) ∧
    (let s : State := user 0 (.softwareDcc (.mcr 15) false);
      s.core.debugState = false ∧ s.dbg.dscrBits.getLsbD 12 = false ∧
        s.env.inputs = [.softwareDcc (.mcr 15) false]) ∧
    (let s : State := user 0 (.softwareDcc (.mrc 14) false);
      s.core.debugState = false ∧ s.dbg.dscrBits.getLsbD 12 = false ∧
        s.env.inputs = [.softwareDcc (.mrc 14) false] ∧ ∃ c, s.core.regs.writeGpr 14 s.dbg.rdtr = some c) ∧
    (let s : State := user 0 (.softwareDcc (.mrc 15) false);
      s.core.debugState = false ∧ s.dbg.dscrBits.getLsbD 12 = false ∧
        s.env.inputs = [.softwareDcc (.mrc 15) false]) ∧
    (let s : State := user 0 (.softwareDcc (.readDscr 0) false);
      s.core.debugState = false ∧ s.dbg.dscrBits.getLsbD 12 = false ∧
        s.env.inputs = [.softwareDcc (.readDscr 0) false] ∧ ∃ c, s.core.regs.writeGpr 0 s.dscr = some c) ∧
    (let s : State := user 0 (.softwareDcc .ldc false);
      s.core.debugState = false ∧ s.dbg.dscrBits.getLsbD 12 = false ∧
        s.env.inputs = [.softwareDcc .ldc false] ∧ s.core.regs.r0 &&& 3 = 0) ∧
    (let s : State := user 0 (.softwareDcc .stc false);
      s.core.debugState = false ∧ s.dbg.dscrBits.getLsbD 12 = false ∧
        s.env.inputs = [.softwareDcc .stc false] ∧ s.core.regs.r0 &&& 3 = 0) ∧
    (let s : State := user 0 (.softwareDcc .ldc true);
      s.core.debugState = false ∧ s.dbg.dscrBits.getLsbD 12 = false ∧
        s.env.inputs = [.softwareDcc .ldc true] ∧ s.core.regs.r0 &&& 3 = 0) ∧
    (let s : State := { inp (.softwareDcc (.mcr 15) false) with dbg.dscrBits := 0x1000 };
      s.core.debugState = false ∧ s.core.regs.cpsr.extractLsb' 0 5 ≠ 0x10#5 ∧
        s.env.inputs = [.softwareDcc (.mcr 15) false]) ∧
    (let s : State := user 0x1000 (.softwareDcc (.mcr 0) false);
      s.core.debugState = false ∧ s.dbg.dscrBits.getLsbD 12 = true ∧
        s.core.regs.cpsr.extractLsb' 0 5 = 0x10#5 ∧ s.env.inputs = [.softwareDcc (.mcr 0) false]) ∧
    (let s : State := inp (.coreRuns ⟨CoreRegs.reset, []⟩ (some true));
      s.core.debugState = false ∧ s.env.inputs = [.coreRuns ⟨CoreRegs.reset, []⟩ (some true)]) :=
  ⟨⟨rfl, rfl, rfl, _, rfl⟩,
    ⟨rfl, rfl, rfl⟩,
    ⟨rfl, rfl, rfl, _, rfl⟩,
    ⟨rfl, rfl, rfl⟩,
    ⟨rfl, rfl, rfl, _, rfl⟩,
    ⟨rfl, rfl, rfl, rfl⟩,
    ⟨rfl, rfl, rfl, rfl⟩,
    ⟨rfl, rfl, rfl, rfl⟩,
    ⟨rfl, by decide, rfl⟩,
    ⟨rfl, rfl, rfl, rfl⟩,
    ⟨rfl, rfl⟩⟩

/-- A machine in Debug state with an instruction in flight and a request of scan chain 7 pending, which
meets the invariant and has a next state. -/
def busy : State :=
  { flying 0xEE000E15 7 false with
    ctl.tap := .updateDr, dbg.req := some ⟨64, 1, true⟩, core.restartReq := true }

theorem witness_StepKeepsInvariant : busy.Inv ∧ ∃ t, step busy = .next t := by
  refine ⟨?_, _, rfl⟩
  constructor <;> first | rfl | decide

/-- In Debug state, with an instruction in flight. -/
theorem witness_ResetMeetsInvariant :
    let v : ProcessorResetValues :=
      { dscr := 0xFFFFFFFF, coreRestarted := true, itr := 1, rdtr := 2, rdtrEmpty := false, wdtr := 3
        wdtrFull := true, vcr := 0, bvr := Vector.replicate 6 0, bcr := Vector.replicate 6 0
        wvr := Vector.replicate 2 0, wcr := Vector.replicate 2 0, core := ⟨CoreRegs.reset, []⟩ };
    { busy with env.inputs := [.processorReset v] }.env.inputs = [.processorReset v] := rfl

theorem witness_FlagsAndViews :
    busy.Inv ∧ busy.dscr.getLsbD 13 = true ∧
    State.reset.Inv ∧ State.reset.dscr.getLsbD 13 = false ∧
    (halted 0x6040 State.reset).Inv ∧ (halted 0x6040 State.reset).dscr.getLsbD 6 = true := by
  refine ⟨witness_StepKeepsInvariant.1, by decide, ?_, by decide, ?_, by decide⟩ <;>
    constructor <;> first | rfl | decide

theorem witness_DebugStateEntryAndExit :
    got (step { inp .coreHalt with core.haltReq := true }) (fun t => t.core.debugState) = some true ∧
    got (step { inp (.softwareDebugEvent .bkpt) with dbg.dscrBits := 0x4000 })
      (fun t => t.core.debugState) = some true ∧
    got (step { halted 0x4000 (inp .coreRestart) with core.restartReq := true })
      (fun t => t.core.debugState) = some false ∧
    (halted 0x4000 (inp .coreRestart)).core.debugState = true ∧
    (inp .coreHalt).core.debugState = false := by decide

theorem witness_CyclesLeaveTheCore :
    (cyc .exit1Dr 0 1 true false).env.inputs = [.tck true false] ∧
    ∃ t, step (cyc .exit1Dr 0 1 true false) = .next t := ⟨rfl, _, rfl⟩

theorem witness_WhenIrAndScregChange :
    got (step { cyc .exit1Ir 0 1 true false with ctl.irs := 0b11111 }) (fun t => t.ctl.ir) =
      some 0b11111 ∧
    got (step { cyc .exit2Dr 0b00010 1 true false with ctl.scs := 7 }) (fun t => t.ctl.screg) =
      some 7 ∧
    got (step { inp (.trst true) with ctl.ir := 0 }) (fun t => t.ctl.ir) = some 0b11110 := by decide

theorem witness_ParametersAreConstant : ∃ t, step (serve 7 1 true) = .next t := ⟨_, rfl⟩

/-- R13 written in Supervisor mode, looked at from FIQ mode, and R12 from Supervisor mode. -/
theorem witness_GeneralRegisters :
    (∃ c, CoreRegs.reset.writeGpr 13 5 = some c ∧
      ((0x11 : Word).extractLsb' 0 5).toNat ∈ [0x10, 0x11, 0x12, 0x13, 0x16, 0x17, 0x1B, 0x1F]) ∧
    (∃ c, CoreRegs.reset.writeGpr 12 5 = some c) ∧ CoreRegs.reset.readGpr 15 = none ∧
    { CoreRegs.reset with cpsr := 0 }.readGpr 8 = none :=
  ⟨⟨_, rfl, by decide⟩, ⟨_, rfl⟩, rfl, rfl⟩

end Sys2Proof.Tests
end

/-! ## Scan chains in Shift-DR (00_scope.md R8) -/

section

namespace Sys2Proof.Machine

/-- A Shift-DR cycle of a connected chain, whichever of its names it is run under: the chain's leg shifts,
after bit 0 of the section has been shown, and the state machine moves. -/
theorem exec_shift {s t : State} {i : Instr} {insn : ScanInsn} {c : BitVec 5} {tms tdi : Bool}
    {rest : List Input} (hc : s.connects i insn c) (hs : s.atShift tms tdi rest)
    (hshift : (chainLeg insn c).shift tdi { s with
      env.inputs := rest
      ctl.tdo := some ((chainLeg insn c).out { s with env.inputs := rest }) } = .next t)
    (htap : t.ctl.tap = s.ctl.tap) :
    exec i s = .next { t with ctl.tap := s.ctl.tap.next tms } := by
  rw [exec_connects hc]
  exact tckCycle_shift hs hshift (htap.trans hs.2)

/-- Settles O27: the shift of each chain's leg, with the section's new value read off `shiftIn_append`. -/
theorem chainShift : Obligations.ChainShift := by
  intro s i insn tms tdi rest hs
  refine ⟨fun hc => ?chain0, fun hc => ?chain1, fun hc => ?chain4, fun hc => ?chain5,
    fun hc => ?chain6⟩
  case chain0 => rw [exec_shift hc hs rfl rfl, ← shiftIn_append (m := 39)]; rfl
  case chain1 => rw [exec_shift hc hs rfl rfl, ← shiftIn_append (m := 31)]; rfl
  case chain4 => rw [exec_shift hc hs rfl rfl, ← shiftIn_append (m := 32)]; rfl
  case chain5 => rw [exec_shift hc hs rfl rfl, ← shiftIn_append (m := 33)]; rfl
  case chain6 => rw [exec_shift hc hs rfl rfl, ← shiftIn_append (m := 39)]; rfl

end Sys2Proof.Machine

end

/-! ## What a step keeps: views of the state, and the actions that leave a view as it was -/

section

namespace Sys2Proof.Machine

/-- An action leaves a view of the state as it was, whenever it goes on. -/
def Keeps {α : Type} (view : State → α) (f : State → Result State) : Prop :=
  ∀ s t, f s = .next t → view t = view s

/-- An action that always goes on keeps what its next state keeps. -/
theorem Keeps.of_next {α : Type} {view : State → α} {f : State → State}
    (h : ∀ s, view (f s) = view s) : Keeps view fun s => .next (f s) := by
  rintro s _ ⟨⟩
  exact h s

/-- An action that is always refused keeps everything. -/
theorem Keeps.of_refused {α : Type} {view : State → α} (r : Refusal) :
    Keeps view fun _ => .refused r := by
  rintro s _ ⟨⟩

/-- The parts of the machine that no action of a TCK cycle reaches: the core's registers and memory and its
Debug state, the wDTR, the registers behind scan chain 7, the pins and the parameters. -/
structure CoreView where
  regs : CoreRegs
  mem : Memory
  debugState : Bool
  entryIsa : Isa
  pendingAborts : Nat
  drained : Bool
  wdtr : Word
  vcr : Word
  bvr : Vector Word 6
  bcr : Vector Word 6
  wvr : Vector Word 2
  wcr : Vector Word 2
  pins : Pins
  cfg : Params

/-- The view of a state. -/
def State.coreView (s : State) : CoreView where
  regs := s.core.regs
  mem := s.core.mem
  debugState := s.core.debugState
  entryIsa := s.core.entryIsa
  pendingAborts := s.core.pendingAborts
  drained := s.core.drained
  wdtr := s.dbg.wdtr
  vcr := s.dbg.vcr
  bvr := s.dbg.bvr
  bcr := s.dbg.bcr
  wvr := s.dbg.wvr
  wcr := s.dbg.wcr
  pins := s.pins
  cfg := s.cfg

/-- Two states with one view agree in each of its parts. -/
theorem coreView_eq_iff {s t : State} :
    t.coreView = s.coreView ↔
      t.core.regs = s.core.regs ∧ t.core.mem = s.core.mem ∧
      t.core.debugState = s.core.debugState ∧ t.core.entryIsa = s.core.entryIsa ∧
      t.core.pendingAborts = s.core.pendingAborts ∧ t.core.drained = s.core.drained ∧
      t.dbg.wdtr = s.dbg.wdtr ∧ t.dbg.vcr = s.dbg.vcr ∧ t.dbg.bvr = s.dbg.bvr ∧
      t.dbg.bcr = s.dbg.bcr ∧ t.dbg.wvr = s.dbg.wvr ∧ t.dbg.wcr = s.dbg.wcr ∧
      t.pins = s.pins ∧ t.cfg = s.cfg := by
  simp only [State.coreView, CoreView.mk.injEq]

/-- States with one view have the same parameters. -/
theorem cfg_of_coreView {s t : State} (h : t.coreView = s.coreView) : t.cfg = s.cfg :=
  congrArg CoreView.cfg h

/-! ### The actions of the data register legs -/

theorem State.haltAction_keeps : Keeps State.coreView State.haltAction := by
  intro s t h
  rcases s.haltAction_cases with ⟨e, _⟩ | ⟨e, _⟩ <;> rw [e] at h <;> cases h <;> rfl

theorem State.restartAction_keeps : Keeps State.coreView State.restartAction := by
  intro s t h
  obtain ⟨_, rfl⟩ := State.restartAction_eq_next h
  rfl

theorem State.tryIssue_keeps : Keeps State.coreView State.tryIssue := by
  intro s t h
  obtain rfl | ⟨rfl, _⟩ := State.tryIssue_eq_next h <;> rfl

theorem State.placeRequest_keeps (a : BitVec 7) (d : Word) (w : Bool) :
    Keeps State.coreView (State.placeRequest a d w) := by
  intro s t h
  obtain rfl | ⟨rfl, _⟩ := State.placeRequest_eq_next h <;> rfl

theorem State.update1_keeps (insn : ScanInsn) :
    Keeps State.coreView fun s => s.update1 insn := by
  intro s t h
  obtain ⟨_, rfl⟩ | ⟨_, rfl, _⟩ := State.update1_eq_next h <;> rfl

theorem State.capture1_coreView (insn : ScanInsn) (s : State) :
    (s.capture1 insn).coreView = s.coreView := by
  cases insn <;> rfl

theorem State.update4_coreView (insn : ScanInsn) (s : State) :
    (s.update4 insn).coreView = s.coreView := by
  cases insn with
  | intest => rfl
  | extest => unfold State.update4; dsimp only; split <;> rfl

theorem State.capture5_coreView (insn : ScanInsn) (s : State) :
    (s.capture5 insn).coreView = s.coreView := by
  cases insn <;> rfl

theorem State.update5_coreView (insn : ScanInsn) (s : State) :
    (s.update5 insn).coreView = s.coreView := by
  cases insn with
  | intest => rfl
  | extest =>
    unfold State.update5
    dsimp only
    generalize (if s.execEnabled then s.ctl.ready else s.ctl.nRetry) = guard
    cases guard <;> rfl

theorem State.capture6_coreView (insn : ScanInsn) (s : State) :
    (s.capture6 insn).coreView = s.coreView := by
  cases insn <;> rfl

theorem State.update6_coreView (insn : ScanInsn) (s : State) :
    (s.update6 insn).coreView = s.coreView := by
  cases insn <;> rfl

theorem State.capture7_coreView (s : State) : s.capture7.coreView = s.coreView := by
  unfold State.capture7
  dsimp only
  split
  · split <;> rfl
  · rfl

theorem State.shift7_coreView (tdi : Bool) (s : State) :
    (s.shift7 tdi).coreView = s.coreView := by
  unfold State.shift7
  split <;> rfl

/-! ### The legs -/

/-- Every action of a leg leaves the view of the core as it was. -/
structure Leg.KeepsCore (leg : Leg) : Prop where
  capture : Keeps State.coreView leg.capture
  shift : ∀ tdi, Keeps State.coreView (leg.shift tdi)
  update : Keeps State.coreView leg.update
  idle : Keeps State.coreView leg.idle

theorem bypassLeg_keepsCore : bypassLeg.KeepsCore where
  capture := .of_next fun _ => rfl
  shift _ := .of_next fun _ => rfl
  update := .of_next fun _ => rfl
  idle := .of_next fun _ => rfl

theorem haltLeg_keepsCore : haltLeg.KeepsCore :=
  { bypassLeg_keepsCore with idle := State.haltAction_keeps }

theorem restartLeg_keepsCore : restartLeg.KeepsCore :=
  { bypassLeg_keepsCore with idle := State.restartAction_keeps }

theorem idcodeLeg_keepsCore : idcodeLeg.KeepsCore where
  capture := .of_next fun _ => rfl
  shift _ := .of_next fun _ => rfl
  update := .of_next fun _ => rfl
  idle := .of_next fun _ => rfl

theorem scanNLeg_keepsCore : scanNLeg.KeepsCore where
  capture := .of_next fun _ => rfl
  shift _ := .of_next fun _ => rfl
  update := .of_next fun _ => rfl
  idle := .of_next fun _ => rfl

theorem chain0Leg_keepsCore : chain0Leg.KeepsCore where
  capture := .of_next fun _ => rfl
  shift _ := .of_next fun _ => rfl
  update := .of_next fun _ => rfl
  idle := .of_next fun _ => rfl

theorem chain1Leg_keepsCore (insn : ScanInsn) : (chain1Leg insn).KeepsCore where
  capture := .of_next (State.capture1_coreView insn)
  shift _ := .of_next fun _ => rfl
  update := State.update1_keeps insn
  idle := .of_next fun _ => rfl

theorem chain4Leg_keepsCore (insn : ScanInsn) : (chain4Leg insn).KeepsCore where
  capture := .of_next fun _ => rfl
  shift _ := .of_next fun _ => rfl
  update := .of_next (State.update4_coreView insn)
  idle := State.tryIssue_keeps

theorem chain5Leg_keepsCore (insn : ScanInsn) : (chain5Leg insn).KeepsCore where
  capture := .of_next (State.capture5_coreView insn)
  shift _ := .of_next fun _ => rfl
  update := .of_next (State.update5_coreView insn)
  idle := State.tryIssue_keeps

theorem chain6Leg_keepsCore (insn : ScanInsn) : (chain6Leg insn).KeepsCore where
  capture := .of_next (State.capture6_coreView insn)
  shift _ := .of_next fun _ => rfl
  update := .of_next (State.update6_coreView insn)
  idle := .of_next fun _ => rfl

/-- Scan chain 7, whatever its Update-DR does with the request standing in it. -/
theorem chain7Leg_keepsCore {place : State → Result State} (hp : Keeps State.coreView place) :
    Leg.KeepsCore { chain7Leg with update := place } where
  capture := .of_next State.capture7_coreView
  shift tdi := .of_next (State.shift7_coreView tdi)
  update := hp
  idle := .of_next fun _ => rfl

theorem undescribedLeg_keepsCore (r : Refusal) : (undescribedLeg r).KeepsCore where
  capture := .of_refused r
  shift _ := .of_refused r
  update := .of_refused r
  idle := .of_next fun _ => rfl

/-- The leg of every scan chain keeps the view of the core. -/
theorem chainLeg_keepsCore (insn : ScanInsn) (number : BitVec 5) :
    (chainLeg insn number).KeepsCore := by
  unfold chainLeg
  split
  · exact chain0Leg_keepsCore
  · exact chain1Leg_keepsCore insn
  · exact undescribedLeg_keepsCore _
  · exact undescribedLeg_keepsCore _
  · exact chain4Leg_keepsCore insn
  · exact chain5Leg_keepsCore insn
  · exact chain6Leg_keepsCore insn
  · exact chain7Leg_keepsCore fun s => State.placeRequest_keeps _ _ _ s
  · split <;> exact undescribedLeg_keepsCore _

/-- The leg of every instruction code keeps the view of the core, whatever chain is selected. -/
theorem legOf_keepsCore (ir number : BitVec 5) : (legOf ir number).KeepsCore := by
  unfold legOf
  split
  · exact chainLeg_keepsCore _ _
  · split
    · exact scanNLeg_keepsCore
    · split
      · exact idcodeLeg_keepsCore
      · split
        · exact haltLeg_keepsCore
        · split
          · exact restartLeg_keepsCore
          · exact bypassLeg_keepsCore

/-! ### A TCK cycle -/

theorem State.stateAction_keeps {leg : Leg} (hl : leg.KeepsCore) (tdi : Bool) :
    Keeps State.coreView (State.stateAction leg tdi) := by
  intro s t h
  unfold State.stateAction at h
  split at h
  case h_1 => cases h; rfl
  case h_2 => exact (hl.capture _ _ h).trans rfl
  case h_3 => exact hl.shift tdi _ _ h
  all_goals cases h; rfl

theorem State.enterAction_keeps {leg : Leg} (hl : leg.KeepsCore) (prev : TapState) :
    Keeps State.coreView (State.enterAction leg prev) := by
  intro s t h
  unfold State.enterAction at h
  split at h
  case h_1 => exact hl.update _ _ h
  case h_4 =>
    split at h
    · exact hl.idle _ _ h
    · cases h; rfl
  all_goals cases h; rfl

/-- A cycle of a leg keeps what the leg's actions keep: the controller's own moves touch `ctl` and `env` only. -/
theorem runCycle_keeps {leg : Leg} (hl : leg.KeepsCore) (tms tdi : Bool) :
    Keeps State.coreView (runCycle leg tms tdi) := by
  intro s t h
  unfold runCycle at h
  split at h
  · cases h; rfl
  · obtain ⟨u, hu, ht⟩ := andThen_eq_next.mp h
    calc t.coreView
      _ = u.coreView := (State.enterAction_keeps hl _ _ _ ht).trans rfl
      _ = s.coreView := (State.stateAction_keeps hl tdi _ _ hu).trans rfl

theorem tckCycle_keeps {leg : Leg} (hl : leg.KeepsCore) : Keeps State.coreView (tckCycle leg) := by
  intro s t h
  unfold tckCycle at h
  split at h
  · exact (runCycle_keeps hl _ _ _ _ h).trans rfl
  · cases h; rfl

/-! ### The rows of the table -/

/-- A request row that goes on is a step of the request engine or a cycle of scan chain 7. -/
theorem requestRow_eq_next {place finish : State → Result State} {s t : State}
    (h : requestRow place finish s = .next t) :
    (∃ rest, s.env.inputs = .engine :: rest ∧ finish (s.afterInput rest) = .next t) ∨
    tckCycle { chain7Leg with update := place } s = .next t := by
  unfold requestRow at h
  split at h
  · next rest hi => exact .inl ⟨rest, hi, h⟩
  · exact .inr h

/-- What `exec` can be, for every row of the table: a cycle of a leg that keeps the view of the core, or a
request row whose placing keeps it and whose completion by the request engine keeps the parameters. -/
def RowForm (i : Instr) (s : State) : Prop :=
  (∃ leg : Leg, leg.KeepsCore ∧ exec i s = tckCycle leg s) ∨
  (∃ place finish, Keeps State.coreView place ∧ Keeps State.cfg finish ∧
    exec i s = requestRow place finish s)

theorem RowForm.of_leg {i : Instr} {s : State} {leg : Leg} (hl : leg.KeepsCore)
    (h : exec i s = tckCycle leg s) : RowForm i s := .inl ⟨leg, hl, h⟩

/-- The row of a register whose write keeps the parameters. -/
theorem RowForm.of_registerRow {i : Instr} {s : State} {a : BitVec 7} {d : Word} {w : Bool}
    {get : State → Word} {put : Word → State → State} (h : exec i s = registerRow a d w get put s)
    (hput : ∀ v t, (put v t).cfg = t.cfg) : RowForm i s := by
  refine .inr ⟨_, _, State.placeRequest_keeps a d w, fun u t hf => ?_, h⟩
  split at hf <;> cases hf
  · exact hput d u
  · rfl

/-- The row of a reserved address. -/
theorem RowForm.of_reservedRow {i : Instr} {s : State} (h : exec i s = reservedRow s) :
    RowForm i s := by
  refine .inr ⟨_, _, fun u t hp => ?_, .of_refused _, h⟩
  split at hp <;> cases hp
  rfl

/-- Every row of the table has one of the two forms. -/
theorem exec_rowForm (i : Instr) (s : State) : RowForm i s := by
  cases i with
  | extest | intest | itrsel => exact .of_leg (chainLeg_keepsCore _ _) rfl
  | scanN => exact .of_leg scanNLeg_keepsCore rfl
  | restart => exact .of_leg restartLeg_keepsCore rfl
  | halt => exact .of_leg haltLeg_keepsCore rfl
  | idcode => exact .of_leg idcodeLeg_keepsCore rfl
  | bypass | reserved01 | reserved03 | reserved05 | reserved06 | reserved07 | reserved09
  | reserved0A | reserved0B | reserved0D | reserved0E | reserved0F | reserved10 | reserved11
  | reserved12 | reserved13 | reserved14 | reserved15 | reserved16 | reserved17 | reserved18
  | reserved19 | reserved1A | reserved1B | reserved1C => exact .of_leg bypassLeg_keepsCore rfl
  | chain0Didr | chain1Dscr | chain2To3 | chain4Itr | chain5Dtr | chain6Etm | chain7DebugRegs
  | chain8To15 | chain16To31 => exact .of_leg (legOf_keepsCore _ _) rfl
  | null => exact .inr ⟨_, _, .of_next fun _ => rfl, .of_next fun _ => rfl, rfl⟩
  | vcr | pc | bvr0 | bvr1 | bvr2 | bvr3 | bvr4 | bvr5 | bcr0 | bcr1 | bcr2 | bcr3 | bcr4 | bcr5
  | wvr0 | wvr1 | wcr0 | wcr1 =>
    refine .of_registerRow (by unfold exec; rfl) ?_
    exact fun _ _ => rfl
  | reserved1To6 | norow9To18 | reserved19To63 | reserved70To79 | reserved86To95 | reserved98To111
  | reserved114To127 => exact .of_reservedRow rfl

/-- On a TCK cycle every row of the table keeps the view of the core. -/
theorem exec_coreView {i : Instr} {s t : State} {tms tdi : Bool} {rest : List Input}
    (hi : s.env.inputs = .tck tms tdi :: rest) (h : exec i s = .next t) :
    t.coreView = s.coreView := by
  rcases exec_rowForm i s with ⟨leg, hl, e⟩ | ⟨place, finish, hp, _, e⟩ <;> rw [e] at h
  · exact tckCycle_keeps hl s t h
  · rcases requestRow_eq_next h with ⟨rest', hi', _⟩ | hc
    · rw [hi] at hi'; cases hi'
    · exact tckCycle_keeps (chain7Leg_keepsCore hp) s t hc

/-- On every input every row of the table keeps the parameters. -/
theorem exec_keeps_cfg (i : Instr) : Keeps State.cfg (exec i) := by
  intro s t h
  rcases exec_rowForm i s with ⟨leg, hl, e⟩ | ⟨place, finish, hp, hf, e⟩ <;> rw [e] at h
  · exact cfg_of_coreView (tckCycle_keeps hl s t h)
  · rcases requestRow_eq_next h with ⟨rest, _, hfin⟩ | hc
    · exact (hf _ _ hfin).trans rfl
    · exact cfg_of_coreView (tckCycle_keeps (chain7Leg_keepsCore hp) s t hc)

/-- A step whose input is a TCK cycle runs the word that governs the cycle. -/
theorem step_tck {s : State} {tms tdi : Bool} {rest : List Input}
    (hi : s.env.inputs = .tck tms tdi :: rest) :
    step s = exec (decode (s.cycleFrame tms)) s := by
  simp only [step, State.fetchFrame, hi]

/-- Settles O57: the step is a row of the table on a TCK cycle, and every row keeps the view of the core then. -/
theorem cyclesLeaveTheCore : Obligations.CyclesLeaveTheCore := by
  intro s t tms tdi rest hi h
  rw [step_tck hi] at h
  exact coreView_eq_iff.mp (exec_coreView hi h)

end Sys2Proof.Machine

end

/-! ## The parameters along every step (00_scope.md R6) -/

section

namespace Sys2Proof.Machine

section Agents

variable (s : State)

@[simp] theorem State.applyEdbgrq_cfg : s.applyEdbgrq.cfg = s.cfg := by
  rcases s.applyEdbgrq_cases with ⟨e, _⟩ | ⟨e, _⟩ <;> rw [e]

@[simp] theorem State.setTrst_cfg (b : Bool) : (s.setTrst b).cfg = s.cfg := by
  cases b <;> rfl

@[simp] theorem State.coreHaltStep_cfg : s.coreHaltStep.cfg = s.cfg := by
  unfold State.coreHaltStep
  split <;> rfl

@[simp] theorem State.recordOutcome_cfg (o : CoreOutcome) :
    (State.recordOutcome o s).cfg = s.cfg := by
  rcases s.recordOutcome_cases o with e | ⟨e, _⟩ | ⟨e, _⟩ <;> rw [e] <;> rfl

/-- Completing the word in flight: its effects and its flag keep the parameters. -/
@[simp] theorem State.completeInstruction_cfg (abort : Bool) :
    (s.completeInstruction abort).cfg = s.cfg := by
  unfold State.completeInstruction
  split
  · rfl
  · next w _ => exact (State.recordOutcome_cfg _ _).trans (State.armExec_frame w abort s).cfg

@[simp] theorem State.coreRunsStep_cfg (e : CoreEffect) (d : Option Bool) :
    (s.coreRunsStep e d).cfg = s.cfg := by
  unfold State.coreRunsStep
  split
  · rfl
  · split
    · split <;> rfl
    · rfl

@[simp] theorem State.softwareDccStep_cfg (op : DccOp) (abort : Bool) :
    (s.softwareDccStep op abort).cfg = s.cfg :=
  (State.softwareDccStep_frame op abort s).cfg

@[simp] theorem State.interruptStep_cfg (e : CoreEffect) : (s.interruptStep e).cfg = s.cfg := by
  unfold State.interruptStep
  split <;> rfl

@[simp] theorem State.abortArisesStep_cfg (r0 : Word) (stores : List (Word × Byte)) :
    (s.abortArisesStep r0 stores).cfg = s.cfg := by
  unfold State.abortArisesStep
  split <;> rfl

@[simp] theorem State.abortRecognisedStep_cfg : s.abortRecognisedStep.cfg = s.cfg := by
  unfold State.abortRecognisedStep
  split
  · rfl
  · dsimp only; split <;> rfl

@[simp] theorem State.processorResetStep_cfg (v : ProcessorResetValues) :
    (s.processorResetStep v).cfg = s.cfg :=
  State.applyEdbgrq_cfg _

end Agents

theorem State.coreRestartStep_keeps_cfg : Keeps State.cfg State.coreRestartStep := by
  intro s t h
  unfold State.coreRestartStep at h
  split at h
  · obtain ⟨_, rfl⟩ := State.leaveDebugState_eq_next h
    exact State.applyEdbgrq_cfg _
  · cases h; rfl

theorem State.softwareDebugEventStep_keeps_cfg (kind : DebugEventKind) :
    Keeps State.cfg (State.softwareDebugEventStep kind) := by
  intro s t h
  unfold State.softwareDebugEventStep at h
  split at h
  · cases h; rfl
  · split at h
    · cases h; rfl
    · split at h <;> cases h
      rfl

/-- No step of another agent changes the parameters. -/
theorem agentStep_keeps_cfg (e : Input) : Keeps State.cfg (agentStep e) := by
  cases e with
  | tck | engine | spiden | etm | coreSetsDscr19 => exact .of_next fun _ => rfl
  | trst b => exact .of_next fun s => s.setTrst_cfg b
  | dbgen | edbgrq => exact .of_next fun _ => State.applyEdbgrq_cfg _
  | coreHalt => exact .of_next State.coreHaltStep_cfg
  | coreRestart => exact State.coreRestartStep_keeps_cfg
  | coreComplete abort => exact .of_next fun s => s.completeInstruction_cfg abort
  | coreRuns e d => exact .of_next fun s => s.coreRunsStep_cfg e d
  | softwareDcc op abort => exact .of_next fun s => s.softwareDccStep_cfg op abort
  | softwareDebugEvent kind => exact State.softwareDebugEventStep_keeps_cfg kind
  | interrupt e => exact .of_next fun s => s.interruptStep_cfg e
  | impreciseAbortArises r0 stores => exact .of_next fun s => s.abortArisesStep_cfg r0 stores
  | impreciseAbortRecognised => exact .of_next State.abortRecognisedStep_cfg
  | processorReset v => exact .of_next fun s => s.processorResetStep_cfg v

/-- A step of the environment is an agent's step on the next input, or none. -/
theorem environmentStep_keeps_cfg : Keeps State.cfg environmentStep := by
  intro s t h
  unfold environmentStep at h
  split at h
  · cases h; rfl
  · exact (agentStep_keeps_cfg _ _ _ h).trans rfl

/-- Settles O59, over every input: a step is a row of the table or a step of another agent, and both keep the parameters. -/
theorem parametersAreConstant : Obligations.ParametersAreConstant := by
  intro s t h
  unfold step at h
  split at h
  · exact exec_keeps_cfg _ s t h
  · exact environmentStep_keeps_cfg s t h

end Sys2Proof.Machine

end

/-! ## Instructions on the cycles of the IR, and on cycles without an action (10_state.md R21 to R23, R130) -/

section

namespace Sys2Proof.Machine

variable {s : State} {leg : Leg} {tms tdi : Bool} {rest : List Input}

/-- A cycle in Capture-IR, whatever data register is connected. -/
theorem tckCycle_captureIr (h : s.due tms tdi rest) (ht : s.ctl.tap = .captureIr) :
    tckCycle leg s = .next { s.afterCycle tms rest with ctl.irs := 0b00001 } := by
  rw [tckCycle_due h]
  cases tms <;>
    simp only [State.stateAction, ht, State.dbgtdo, andThen_next, State.enterAction,
      State.afterCycle, TapState.next, if_true, Bool.false_eq_true, if_false]

/-- A cycle in Shift-IR, whatever data register is connected. -/
theorem tckCycle_shiftIr (h : s.due tms tdi rest) (ht : s.ctl.tap = .shiftIr) :
    tckCycle leg s = .next { s.afterCycle tms rest with
      ctl.tdo := some (s.ctl.irs.getLsbD 0), ctl.irs := shiftIn tdi s.ctl.irs } := by
  rw [tckCycle_due h]
  cases tms <;>
    simp only [State.stateAction, ht, State.dbgtdo, andThen_next, State.enterAction,
      State.afterCycle, TapState.next, if_true, Bool.false_eq_true, if_false]

/-- A cycle that enters Update-IR, whatever data register is connected. -/
theorem tckCycle_updateIr (h : s.due true tdi rest)
    (ht : s.ctl.tap = .exit1Ir ∨ s.ctl.tap = .exit2Ir) :
    tckCycle leg s = .next { s.afterCycle true rest with ctl.ir := s.ctl.irs } := by
  rw [tckCycle_due h]
  rcases ht with ht | ht <;>
    simp only [State.stateAction, ht, State.dbgtdo, andThen_next, State.enterAction,
      State.afterCycle, TapState.next, if_true]

/-- Settles O9: every row is one cycle of some leg, and no leg has a part in the IR's cycles. -/
theorem irScan : Obligations.IrScan := by
  intro i s
  refine ⟨fun tms tdi rest h ht => ?capture, fun tms tdi rest h ht => ?shift,
    fun tdi rest h ht => ?update⟩
  all_goals obtain ⟨leg, e⟩ := exec_due i h; rw [e]
  case capture => exact tckCycle_captureIr h ht
  case shift => rw [tckCycle_shiftIr h ht, shiftIn_append (m := 4)]
  case update => exact tckCycle_updateIr h ht

/-- Settles O10: every row is one cycle of some leg, and a quiet cycle reaches no action of it. -/
theorem quietCycles : Obligations.QuietCycles := by
  intro i s tms tdi rest h hq
  obtain ⟨leg, e⟩ := exec_due i h
  rw [e, tckCycle_quiet h hq]

end Sys2Proof.Machine

end

/-! ## The word of a step (10_state.md R22, 41_scan_chains.md R150, R176) -/

section

namespace Sys2Proof.Machine

/-- A step whose input is a request engine step, with a request pending, runs the request's row. -/
theorem step_engine {s : State} {rest : List Input} {r : Request}
    (hi : s.env.inputs = .engine :: rest) (hr : s.dbg.req = some r) :
    step s = exec (decodeAddress r.address r.data r.write) s := by
  simp only [step, State.fetchFrame, hi, hr, Option.map_some, Request.frame, decode_requestFrame]

/-- A step whose input belongs to another agent is that agent's step. -/
theorem step_agent {s : State} {e : Input} {rest : List Input} (hi : s.env.inputs = e :: rest)
    (htck : ∀ tms tdi, e ≠ .tck tms tdi) (hengine : e = .engine → s.dbg.req = none) :
    step s = agentStep e (s.afterInput rest) := by
  have hf : s.fetchFrame = none := by
    simp only [State.fetchFrame, hi]
    split
    · next h => cases h; exact absurd rfl (htck _ _)
    · next h => cases h; simp [hengine rfl]
    · rfl
  simp only [step, hf, environmentStep, hi, State.afterInput]

/-- The word that governs the cycle of an IR code just loaded is that code. -/
theorem State.withCode_cycleFrame (s : State) (c : BitVec 5) :
    (s.withCode c).cycleFrame false = .ir5 c := by
  unfold State.cycleFrame
  split <;> rfl

/-- `withFrame` makes the state whose next step takes the word. -/
theorem State.withFrame_fetchFrame (s : State) (f : Frame) :
    (s.withFrame f).fetchFrame = some f := by
  cases f with
  | ir5 c => exact congrArg some (s.withCode_cycleFrame c)
  | screg5 n => rfl
  | sc7req r => rfl

/-- Settles O4: by the input at the head of the list, and `withFrame_fetchFrame`. -/
theorem stepRunsDecodedInstruction : Obligations.StepRunsDecodedInstruction := by
  refine ⟨fun s tms tdi rest hi => step_tck hi, fun s rest r hi hr => ?pending,
    fun s rest hi hr => ?passes, fun s f => ?placed⟩
  case pending => rw [step_engine hi hr, decode_requestFrame]
  case passes => exact step_agent hi (fun _ _ h => nomatch h) fun _ => hr
  case placed => simp only [step, State.withFrame_fetchFrame]

end Sys2Proof.Machine

end
/-! ## The flags and views of the DSCR (10_state.md R35 to R45, R57) -/

section

namespace Sys2Proof.Machine

/-- The bits of the DSCR that are views of flags kept elsewhere. -/
theorem getLsbD_dscrViewMask (k : Nat) :
    dscrViewMask.getLsbD k = true ↔ k ∈ [0, 1, 29, 30] := by
  by_cases hk : k < 32
  · have all : ∀ m : Fin 32, dscrViewMask.getLsbD m.val = true ↔ m.val ∈ [0, 1, 29, 30] := by decide
    exact all ⟨k, hk⟩
  · rw [BitVec.getLsbD_of_ge _ _ (by omega)]
    simp only [Bool.false_eq_true, List.mem_cons, List.not_mem_nil, or_false, false_iff]
    omega

/-- A bit of the DSCR outside the views reads as the stored bit. -/
theorem State.getLsbD_dscr_stored (s : State) {k : Nat} (hk : k ∉ [0, 1, 29, 30]) :
    s.dscr.getLsbD k = s.dbg.dscrBits.getLsbD k := by
  have hm : dscrViewMask.getLsbD k = false := by simpa using mt (getLsbD_dscrViewMask k).mp hk
  simp only [List.mem_cons, List.not_mem_nil, or_false, not_or] at hk
  obtain ⟨h0, h1, h29, h30⟩ := hk
  simp only [State.dscr, BitVec.getLsbD_or, BitVec.getLsbD_and, BitVec.getLsbD_not, getLsbD_flagBit,
    hm, Ne.symm h0, Ne.symm h1, Ne.symm h29, Ne.symm h30, decide_false, Bool.and_false,
    Bool.or_false, Bool.not_false, Bool.and_true]
  by_cases h : k < 32
  · simp [h]
  · simp [h, BitVec.getLsbD_of_ge _ k (by omega : 32 ≤ k)]

/-- The four views of the DSCR are the flags they stand for. -/
theorem State.getLsbD_dscr_view (s : State) :
    s.dscr.getLsbD 0 = s.core.debugState ∧ s.dscr.getLsbD 1 = s.dbg.coreRestarted ∧
    s.dscr.getLsbD 29 = s.dbg.wdtrFull ∧ s.dscr.getLsbD 30 = !s.dbg.rdtrEmpty := by
  refine ⟨?_, ?_, ?_, ?_⟩ <;>
    simp [State.dscr, getLsbD_flagBit, dscrViewMask, -BitVec.getLsbD_eq_getElem]

/-- Settles O55: each bit is a view or a stored bit, and the invariant speaks of the stored bits 13 and 6. -/
theorem flagsAndViews : Obligations.FlagsAndViews := by
  intro s inv
  obtain ⟨h0, h1, h29, h30⟩ := s.getLsbD_dscr_view
  refine ⟨h30, h29, h0, h1, fun k hk => s.getLsbD_dscr_stored hk, fun h13 => ?enabled,
    Option.isNone_iff_eq_none, fun h6 => ?abort⟩
  case enabled =>
    rw [s.getLsbD_dscr_stored (by decide)] at h13
    exact inv.disabledComplete h13
  case abort =>
    rw [s.getLsbD_dscr_stored (by decide)] at h6
    exact inv.abortComplete h6

end Sys2Proof.Machine

end

/-! ## Which leg a TCK cycle runs (40_tap_instructions.md R130, R131, 41_scan_chains.md R150) -/

section

namespace Sys2Proof.Machine

/-- The leg of an instruction code, by what the code is. -/
theorem legOf_cases (ir number : BitVec 5) :
    (∃ insn c, effective ir number = some (insn, c) ∧ legOf ir number = chainLeg insn c) ∨
    (ir = 0b00010 ∧ legOf ir number = scanNLeg) ∨
    legOf ir number = idcodeLeg ∨ legOf ir number = haltLeg ∨ legOf ir number = restartLeg ∨
    legOf ir number = bypassLeg := by
  unfold legOf
  split
  · next insn c h => exact .inl ⟨insn, c, h, rfl⟩
  · split
    · exact .inr (.inl ⟨‹_›, rfl⟩)
    · split
      · simp
      · split
        · simp
        · split <;> simp

/-- The leg of a scan chain, by its number. -/
theorem chainLeg_cases (insn : ScanInsn) (c : BitVec 5) :
    chainLeg insn c = chain0Leg ∨ chainLeg insn c = chain1Leg insn ∨
    chainLeg insn c = chain4Leg insn ∨ chainLeg insn c = chain5Leg insn ∨
    chainLeg insn c = chain6Leg insn ∨ chainLeg insn c = chain7Leg ∨
    ∃ r, chainLeg insn c = undescribedLeg r := by
  unfold chainLeg
  split
  case h_9 => split <;> simp
  all_goals simp

/-- The row of a code runs the leg of that code. -/
theorem exec_decodeIr (c : BitVec 5) (s : State) :
    exec (decodeIr c) s = tckCycle (legOf c s.ctl.screg) s := by
  obtain ⟨n, hn, rfl⟩ : ∃ n < 32, c = BitVec.ofNat 5 n := ⟨c.toNat, c.isLt, by simp⟩
  interval_cases n <;> rfl

/-- The chain the controller acts on is connected, and its row is one of its names. -/
theorem connects_of_effective {s : State} {insn : ScanInsn} {c : BitVec 5}
    (h : effective s.ctl.ir s.ctl.screg = some (insn, c)) : s.connects (decodeScreg c) insn c := by
  unfold effective at h
  split at h
  · next hir => cases h; exact .inr (.inr ⟨hir, rfl, rfl, .inr rfl⟩)
  · split at h
    · next hir => cases h; exact .inr (.inl ⟨hir, rfl, rfl, .inr rfl⟩)
    · split at h
      · next hir => cases h; exact .inl ⟨hir, rfl, rfl, .inr rfl⟩
      · cases h

/-- The leg of an instruction that connects a scan chain is the chain's. -/
theorem legOf_of_effective {ir number c : BitVec 5} {insn : ScanInsn}
    (h : effective ir number = some (insn, c)) : legOf ir number = chainLeg insn c := by
  simp only [legOf, h]

/-- What the write of a register by a request may change: the registers behind scan chain 7. -/
def PutsDebugRegs (put : Word → State → State) : Prop :=
  ∀ v s, ∃ vcr bvr bcr wvr wcr, put v s =
    { s with dbg.vcr := vcr, dbg.bvr := bvr, dbg.bcr := bcr, dbg.wvr := wvr, dbg.wcr := wcr }

/-- The row of an address of scan chain 7: NULL, a reserved address, or a register. -/
theorem exec_decodeAddress (a : BitVec 7) (d : Word) (w : Bool) (s : State) :
    (a = 0 ∧ exec (decodeAddress a d w) s = execNull d w s) ∨
    (a ≠ 0 ∧ reservedAddress a = true ∧ exec (decodeAddress a d w) s = reservedRow s) ∨
    (∃ get put, PutsDebugRegs put ∧ reservedAddress a = false ∧ a ≠ 0 ∧
      exec (decodeAddress a d w) s = registerRow a d w get put s) := by
  have numeral : ∀ {n : Nat}, a.toNat = n → a = BitVec.ofNat 7 n := by rintro _ rfl; simp
  have other : ∀ b : BitVec 7, b.toNat ∉ [0, 7, 8, 64, 65, 66, 67, 68, 69, 80, 81, 82, 83, 84, 85,
      96, 97, 112, 113] → b ≠ 0 ∧ reservedAddress b = true := by decide
  unfold decodeAddress
  split
  case h_1 h =>
    obtain rfl := numeral h
    exact .inl ⟨rfl, rfl⟩
  case h_20 =>
    obtain ⟨h0, hr⟩ := other a (by simp only [List.mem_cons, List.not_mem_nil, or_false]; tauto)
    refine .inr (.inl ⟨h0, hr, ?_⟩)
    repeat' split
    all_goals rfl
  all_goals
    next h =>
      obtain rfl := numeral h
      refine .inr (.inr ⟨_, _, ?_, by decide, by decide, by unfold exec; rfl⟩)
      exact fun v s => ⟨_, _, _, _, _, rfl⟩

/-- On the cycle that enters Update-DR, the row of the request standing in scan chain 7 does what the chain
does with it. -/
theorem exec_decodeRequest_update {s : State} {tdi : Bool} {rest : List Input} (r : BitVec 40)
    (h : s.entersUpdate tdi rest) :
    exec (decodeRequest r) s =
      (s.afterCycle true rest).placeRequest (requestAddress r) (requestData r) (requestWrite r) := by
  unfold decodeRequest
  rcases exec_decodeAddress (requestAddress r) (requestData r) (requestWrite r) s with
    ⟨h0, e⟩ | ⟨h0, hr, e⟩ | ⟨get, put, _, _, _, e⟩ <;> rw [e]
  · rw [h0, placeRequest_null]
    exact requestRow_update h
  · rw [reservedRow_update h, placeRequest_reserved h0 hr]
    rfl
  · exact registerRow_update h

/-- The word that governs a cycle is the instruction's code, the number of the connected chain, or, where
the cycle enters Update-DR of scan chain 7, the request standing there. -/
theorem State.cycleFrame_cases (s : State) (tms : Bool) :
    s.cycleFrame tms = .ir5 s.ctl.ir ∨
    (∃ insn c, effective s.ctl.ir s.ctl.screg = some (insn, c) ∧ s.cycleFrame tms = .screg5 c) ∨
    (∃ insn, effective s.ctl.ir s.ctl.screg = some (insn, 7) ∧ s.cycleFrame tms = .sc7req s.ctl.s7 ∧
      s.pins.trst = false ∧ tms = true ∧ (s.ctl.tap = .exit1Dr ∨ s.ctl.tap = .exit2Dr)) := by
  unfold State.cycleFrame
  split
  · exact .inl rfl
  next insn c he =>
  split
  · exact .inl rfl
  next ht =>
  split
  case h_1 | h_2 => exact .inr (.inl ⟨insn, c, he, rfl⟩)
  case h_3 htap | h_4 htap =>
    split
    · next hm =>
      split
      · next hc =>
        subst hc
        exact .inr (.inr ⟨insn, he, rfl, by simpa using ht, hm, by simp [htap]⟩)
      · exact .inr (.inl ⟨insn, c, he, rfl⟩)
    · exact .inl rfl
  case h_5 => exact .inl rfl

/-- On a TCK cycle a step is one cycle of the leg of the instruction in the IR, whichever word governs it. -/
theorem step_tck_leg {s : State} {tms tdi : Bool} {rest : List Input}
    (hi : s.env.inputs = .tck tms tdi :: rest) :
    step s = tckCycle (legOf s.ctl.ir s.ctl.screg) s := by
  rw [step_tck hi]
  rcases s.cycleFrame_cases tms with e | ⟨insn, c, he, e⟩ | ⟨insn, he, e, htrst, rfl, htap⟩ <;> rw [e]
  · exact exec_decodeIr _ s
  · rw [legOf_of_effective he]
    exact exec_connects (connects_of_effective he)
  · have hu : s.entersUpdate tdi rest := ⟨⟨htrst, hi⟩, htap⟩
    rw [legOf_of_effective he, tckCycle_update hu]
    exact exec_decodeRequest_update _ hu

end Sys2Proof.Machine

end

/-! ## What a TCK cycle can be, for a leg that leaves the controller's registers alone (10_state.md R21, R22) -/

section

namespace Sys2Proof.Machine

/-- The controller's position and instruction, and the inputs to come: no action of a leg touches them. -/
structure TapView where
  tap : TapState
  ir : BitVec 5
  inputs : List Input

/-- The position, instruction and inputs of a state. -/
def State.tapView (s : State) : TapView where
  tap := s.ctl.tap
  ir := s.ctl.ir
  inputs := s.env.inputs

/-- What the actions of a DR scan before its update leave alone. -/
structure ScanView extends TapView where
  screg : BitVec 5
  ready : Bool
  instCompl : Bool
  req : Option Request

/-- The view of a state. -/
def State.scanView (s : State) : ScanView where
  toTapView := s.tapView
  screg := s.ctl.screg
  ready := s.ctl.ready
  instCompl := s.dbg.instCompl
  req := s.dbg.req

/-- What each action of a leg leaves alone of the controller. -/
structure Leg.KeepsControl (leg : Leg) : Prop where
  capture : Keeps State.scanView leg.capture
  shift : ∀ tdi, Keeps (fun s => (s.scanView, s.ctl.reqReady)) (leg.shift tdi)
  update : Keeps State.tapView leg.update
  idle : Keeps (fun s => (s.tapView, s.ctl.screg)) leg.idle

/-- What a DBGTAP reset leaves of a state, with the controller then in `tap` (70_reset_and_hazards.md R310,
R311). -/
structure DbgtapReset (s t : State) (tap : TapState) (rest : List Input) : Prop where
  tap : t.ctl.tap = tap
  ir : t.ctl.ir = 0b11110
  screg : t.ctl.screg = 0b00011
  dbg : t.dbg = s.dbg
  core : t.core = s.core
  pins : t.pins = s.pins
  inputs : t.env.inputs = rest

/-- The kinds of TCK cycle and what each leaves. -/
inductive CycleStep (leg : Leg) (s : State) (tms tdi : Bool) (rest : List Input) : State → Prop
  /-- DBGnTRST is asserted -/
  | held {t : State} (trst : s.pins.trst = true) (reset : DbgtapReset s t .testLogicReset rest) :
      CycleStep leg s tms tdi rest t
  /-- the cycle stands in or enters Test-Logic-Reset -/
  | reset {t : State} (due : s.due tms tdi rest)
      (tap : s.ctl.tap = .testLogicReset ∨ s.ctl.tap = .selectIr ∧ tms = true)
      (reset : DbgtapReset s t (s.ctl.tap.next tms) rest) : CycleStep leg s tms tdi rest t
  /-- no action -/
  | quiet (due : s.due tms tdi rest) (quiet : s.ctl.tap.quiet tms = true) :
      CycleStep leg s tms tdi rest (s.afterCycle tms rest)
  /-- Capture-DR -/
  | capture {u : State} (due : s.atCapture tms tdi rest)
      (action : leg.capture { s with
        env.inputs := rest, ctl.tdo := none, ctl.ready := s.dbg.instCompl } = .next u) :
      CycleStep leg s tms tdi rest { u with ctl.tap := s.ctl.tap.next tms }
  /-- Shift-DR -/
  | shift {u : State} (due : s.atShift tms tdi rest)
      (action : leg.shift tdi { s with
        env.inputs := rest, ctl.tdo := some (leg.out { s with env.inputs := rest }) } = .next u) :
      CycleStep leg s tms tdi rest { u with ctl.tap := s.ctl.tap.next tms }
  /-- entry to Update-DR -/
  | update {t : State} (hm : tms = true) (enters : s.entersUpdate tdi rest)
      (action : leg.update (s.afterCycle true rest) = .next t) : CycleStep leg s tms tdi rest t
  /-- entry to Run-Test/Idle from an update -/
  | idle {t : State} (hm : tms = false) (enters : s.entersIdle tdi rest)
      (action : leg.idle (s.afterCycle false rest) = .next t) : CycleStep leg s tms tdi rest t
  /-- Capture-IR and Shift-IR: the IR's shift section changes -/
  | irScan (due : s.due tms tdi rest) (tap : s.ctl.tap = .captureIr ∨ s.ctl.tap = .shiftIr)
      (tdo : Option Bool) (irs : BitVec 5) :
      CycleStep leg s tms tdi rest { s.afterCycle tms rest with ctl.tdo := tdo, ctl.irs := irs }
  /-- entry to Update-IR -/
  | updateIr (hm : tms = true) (due : s.due true tdi rest)
      (tap : s.ctl.tap = .exit1Ir ∨ s.ctl.tap = .exit2Ir) :
      CycleStep leg s tms tdi rest { s.afterCycle true rest with ctl.ir := s.ctl.irs }

variable {s t : State} {leg : Leg} {tms tdi : Bool} {rest : List Input}

/-- The kinds of cycle by the position of the state machine. -/
theorem TapState.cycle_kinds (p : TapState) (tms : Bool) :
    p.quiet tms = true ∨ (p = .testLogicReset ∨ p = .selectIr ∧ tms = true) ∨
    p = .captureDr ∨ p = .shiftDr ∨
    (tms = true ∧ (p = .exit1Dr ∨ p = .exit2Dr)) ∨ (tms = false ∧ (p = .updateDr ∨ p = .updateIr)) ∨
    (p = .captureIr ∨ p = .shiftIr) ∨ (tms = true ∧ (p = .exit1Ir ∨ p = .exit2Ir)) := by
  cases p <;> cases tms <;> simp [TapState.quiet]

/-- A cycle that stands in or enters Test-Logic-Reset is a DBGTAP reset. -/
theorem tckCycle_reset (h : s.due tms tdi rest)
    (htap : s.ctl.tap = .testLogicReset ∨ s.ctl.tap = .selectIr ∧ tms = true) :
    ∃ t, tckCycle leg s = .next t ∧ DbgtapReset s t (s.ctl.tap.next tms) rest := by
  rw [tckCycle_due h]
  rcases htap with ht | ⟨ht, rfl⟩
  case' inl => cases tms
  all_goals
    simp only [ht, State.stateAction, State.dbgtdo, andThen_next, State.enterAction, TapState.next,
      State.tapReset, State.usedDraws_ctl, if_true, Bool.false_eq_true, if_false]
    exact ⟨_, rfl, by constructor <;> rfl⟩

/-- A cycle in Capture-DR that goes on has captured. -/
theorem tckCycle_captures (h : s.atCapture tms tdi rest) (hn : tckCycle leg s = .next t) :
    ∃ u, leg.capture { s with
      env.inputs := rest, ctl.tdo := none, ctl.ready := s.dbg.instCompl } = .next u := by
  rw [tckCycle_due h.1, State.dbgtdo_capture (by exact h.2)] at hn
  obtain ⟨u, hu, _⟩ := andThen_eq_next.mp hn
  rw [State.stateAction_capture (by exact h.2)] at hu
  exact ⟨u, hu⟩

/-- A cycle in Shift-DR that goes on has shifted. -/
theorem tckCycle_shifts (h : s.atShift tms tdi rest) (hn : tckCycle leg s = .next t) :
    ∃ u, leg.shift tdi { s with
      env.inputs := rest, ctl.tdo := some (leg.out { s with env.inputs := rest }) } = .next u := by
  rw [tckCycle_due h.1, State.dbgtdo_shift (by exact h.2)] at hn
  obtain ⟨u, hu, _⟩ := andThen_eq_next.mp hn
  rw [State.stateAction_shift (by exact h.2)] at hu
  exact ⟨u, hu⟩

/-- Every TCK cycle that goes on is of one of these kinds. -/
theorem tckCycle_eq_next (hl : leg.KeepsControl) (hi : s.env.inputs = .tck tms tdi :: rest)
    (h : tckCycle leg s = .next t) : CycleStep leg s tms tdi rest t := by
  cases htrst : s.pins.trst with
  | true =>
    rw [tckCycle_trst htrst hi] at h
    cases h
    exact .held htrst (by constructor <;> rfl)
  | false =>
    have due : s.due tms tdi rest := ⟨htrst, hi⟩
    rcases s.ctl.tap.cycle_kinds tms with
      hq | htap | htap | htap | ⟨rfl, htap⟩ | ⟨rfl, htap⟩ | htap | ⟨rfl, htap⟩
    · cases (tckCycle_quiet due hq).symm.trans h
      exact .quiet due hq
    · obtain ⟨u, hu, hr⟩ := tckCycle_reset (leg := leg) due htap
      cases hu.symm.trans h
      exact .reset due htap hr
    · obtain ⟨u, hu⟩ := tckCycle_captures ⟨due, htap⟩ h
      have hut : u.ctl.tap = .captureDr :=
        (congrArg (fun v => v.tap) (hl.capture _ _ hu)).trans htap
      cases (tckCycle_capture ⟨due, htap⟩ hu hut).symm.trans h
      exact .capture ⟨due, htap⟩ hu
    · obtain ⟨u, hu⟩ := tckCycle_shifts ⟨due, htap⟩ h
      have hut : u.ctl.tap = .shiftDr :=
        (congrArg (fun v => v.1.tap) (hl.shift tdi _ _ hu)).trans htap
      cases (tckCycle_shift ⟨due, htap⟩ hu hut).symm.trans h
      exact .shift ⟨due, htap⟩ hu
    · exact .update rfl ⟨due, htap⟩ ((tckCycle_update ⟨due, htap⟩).symm.trans h)
    · exact .idle rfl ⟨due, htap⟩ ((tckCycle_idle ⟨due, htap⟩).symm.trans h)
    · rcases htap with htap | htap
      · cases (tckCycle_captureIr due htap).symm.trans h
        exact .irScan due (.inl htap) _ _
      · cases (tckCycle_shiftIr due htap).symm.trans h
        exact .irScan due (.inr htap) _ _
    · cases (tckCycle_updateIr due htap).symm.trans h
      exact .updateIr rfl due htap

/-- What any TCK cycle does to the position of the state machine, and to the inputs and pins. -/
theorem CycleStep.moves {t : State} (hl : leg.KeepsControl) (h : CycleStep leg s tms tdi rest t) :
    t.env.inputs = rest ∧
      t.ctl.tap = if s.pins.trst then .testLogicReset else s.ctl.tap.next tms := by
  cases h with
  | held trst reset => exact ⟨reset.inputs, by rw [trst]; exact reset.tap⟩
  | reset due _ reset => exact ⟨reset.inputs, by rw [due.1]; exact reset.tap⟩
  | quiet due => exact ⟨rfl, by rw [due.1]; rfl⟩
  | capture due action =>
    exact ⟨congrArg (fun v => v.inputs) (hl.capture _ _ action), by rw [due.1.1]; rfl⟩
  | shift due action =>
    exact ⟨congrArg (fun v => v.1.inputs) (hl.shift tdi _ _ action), by rw [due.1.1]; rfl⟩
  | update hm enters action =>
    subst hm
    have hv := hl.update _ _ action
    exact ⟨congrArg TapView.inputs hv, by rw [enters.1.1]; exact congrArg TapView.tap hv⟩
  | idle hm enters action =>
    subst hm
    have hv := hl.idle _ _ action
    exact ⟨congrArg (fun v => v.1.inputs) hv, by
      rw [enters.1.1]; exact congrArg (fun v => v.1.tap) hv⟩
  | irScan due => exact ⟨rfl, by rw [due.1]; rfl⟩
  | updateIr hm due => subst hm; exact ⟨rfl, by rw [due.1]; rfl⟩

end Sys2Proof.Machine

end

/-! ## The actions of the legs: what each can change -/

section

namespace Sys2Proof.Machine

/-- An update of scan chain 4 writes the ITR or nothing. -/
theorem State.update4_cases (insn : ScanInsn) (s : State) :
    s.update4 insn = s ∨ s.update4 insn = { s with dbg.itr := data4 s.ctl.s4 } := by
  cases insn with
  | intest => exact .inl rfl
  | extest =>
    simp only [State.update4]
    split
    · exact .inr rfl
    · exact .inl rfl

/-- An update of scan chain 5 writes the rDTR with its flag or nothing. -/
theorem State.update5_cases (insn : ScanInsn) (s : State) :
    s.update5 insn = s ∨
    s.update5 insn = { s with dbg.rdtr := data5 s.ctl.s5, dbg.rdtrEmpty := false } := by
  cases insn with
  | intest => exact .inl rfl
  | extest =>
    unfold State.update5
    dsimp only
    generalize (if s.execEnabled then s.ctl.ready else s.ctl.nRetry) = guard
    cases guard
    · exact .inl rfl
    · exact .inr rfl

/-- A capture of scan chain 7 loads its shift section and its latch, and may deliver a read result. -/
theorem State.capture7_eq (s : State) :
    ∃ n s7 rdData, s.capture7 = State.usedDraws n
      { s with ctl.reqReady := s.reqCompl, ctl.s7 := s7, dbg.rdData := rdData } := by
  unfold State.capture7
  dsimp only
  split
  · split
    · exact ⟨1, _, _, rfl⟩
    · exact ⟨2, _, _, rfl⟩
  · exact ⟨0, _, _, rfl⟩

/-- A shift of scan chain 7 changes its shift section alone. -/
theorem State.shift7_eq (tdi : Bool) (s : State) : ∃ s7, s.shift7 tdi = { s with ctl.s7 := s7 } := by
  unfold State.shift7
  split <;> exact ⟨_, rfl⟩

/-! ### The controller's own registers -/

theorem bypassLeg_keepsControl : bypassLeg.KeepsControl where
  capture := .of_next fun _ => rfl
  shift _ := .of_next fun _ => rfl
  update := .of_next fun _ => rfl
  idle := .of_next fun _ => rfl

theorem haltLeg_keepsControl : haltLeg.KeepsControl :=
  { bypassLeg_keepsControl with
    idle := by
      intro s t h
      rcases s.haltAction_cases with ⟨e, _⟩ | ⟨e, _⟩ <;> cases e.symm.trans h <;> rfl }

theorem restartLeg_keepsControl : restartLeg.KeepsControl :=
  { bypassLeg_keepsControl with
    idle := by
      intro s t h
      obtain ⟨_, rfl⟩ := State.restartAction_eq_next h
      rfl }

theorem idcodeLeg_keepsControl : idcodeLeg.KeepsControl where
  capture := .of_next fun _ => rfl
  shift _ := .of_next fun _ => rfl
  update := .of_next fun _ => rfl
  idle := .of_next fun _ => rfl

theorem scanNLeg_keepsControl : scanNLeg.KeepsControl where
  capture := .of_next fun _ => rfl
  shift _ := .of_next fun _ => rfl
  update := .of_next fun _ => rfl
  idle := .of_next fun _ => rfl

/-- The capture of a scan chain keeps the state machine, the registers of the IR and SCREG, `Ready` and what
they guard. -/
theorem chainLeg_capture_keeps (insn : ScanInsn) (c : BitVec 5) :
    Keeps State.scanView (chainLeg insn c).capture := by
  rcases chainLeg_cases insn c with e | e | e | e | e | e | ⟨r, e⟩ <;> rw [e]
  · exact .of_next fun _ => rfl
  · exact .of_next fun _ => by cases insn <;> rfl
  · exact .of_next fun _ => rfl
  · exact .of_next fun _ => by cases insn <;> rfl
  · exact .of_next fun _ => by cases insn <;> rfl
  · refine .of_next fun s => ?_
    obtain ⟨n, s7, rdData, e7⟩ := s.capture7_eq
    rw [e7]; rfl
  · exact .of_refused r

/-- The shift of a scan chain changes its shift section alone. -/
theorem chainLeg_shift_keeps (insn : ScanInsn) (c : BitVec 5) (tdi : Bool) :
    Keeps (fun s => (s.scanView, s.ctl.reqReady)) ((chainLeg insn c).shift tdi) := by
  rcases chainLeg_cases insn c with e | e | e | e | e | e | ⟨r, e⟩ <;> rw [e]
  · exact .of_next fun _ => rfl
  · exact .of_next fun _ => rfl
  · exact .of_next fun _ => rfl
  · exact .of_next fun _ => rfl
  · exact .of_next fun _ => rfl
  · refine .of_next fun s => ?_
    obtain ⟨s7, e7⟩ := s.shift7_eq tdi
    rw [e7]; rfl
  · exact .of_refused r

/-- The update of a scan chain leaves the whole controller alone. -/
theorem chainLeg_update_keeps (insn : ScanInsn) (c : BitVec 5) :
    Keeps (fun s => (s.ctl, s.env)) (chainLeg insn c).update := by
  rcases chainLeg_cases insn c with e | e | e | e | e | e | ⟨r, e⟩ <;> rw [e]
  · exact .of_next fun _ => rfl
  · intro s t h
    obtain ⟨_, rfl⟩ | ⟨_, rfl, _⟩ := State.update1_eq_next h <;> rfl
  · exact .of_next fun s => by rcases s.update4_cases insn with e4 | e4 <;> rw [e4]
  · exact .of_next fun s => by rcases s.update5_cases insn with e5 | e5 <;> rw [e5]
  · exact .of_next fun _ => by cases insn <;> rfl
  · intro s t h
    obtain rfl | ⟨rfl, _⟩ := State.placeRequest_eq_next h <;> rfl
  · exact .of_refused r

/-- Entry to Run-Test/Idle with a scan chain connected leaves the whole controller alone. -/
theorem chainLeg_idle_keeps (insn : ScanInsn) (c : BitVec 5) :
    Keeps (fun s => (s.ctl, s.env)) (chainLeg insn c).idle := by
  have issues : Keeps (fun s => (s.ctl, s.env)) State.tryIssue := by
    intro s t h
    obtain rfl | ⟨rfl, _⟩ := State.tryIssue_eq_next h <;> rfl
  rcases chainLeg_cases insn c with e | e | e | e | e | e | ⟨r, e⟩ <;> rw [e]
  · exact .of_next fun _ => rfl
  · exact .of_next fun _ => rfl
  · exact issues
  · exact issues
  · exact .of_next fun _ => rfl
  · exact .of_next fun _ => rfl
  · exact .of_next fun _ => rfl

/-- The leg of every scan chain leaves the controller's own registers alone. -/
theorem chainLeg_keepsControl (insn : ScanInsn) (c : BitVec 5) :
    (chainLeg insn c).KeepsControl where
  capture := chainLeg_capture_keeps insn c
  shift := chainLeg_shift_keeps insn c
  update s t h := by
    obtain ⟨hctl, henv⟩ := Prod.mk.inj (chainLeg_update_keeps insn c s t h)
    simp only [State.tapView, hctl, henv]
  idle s t h := by
    obtain ⟨hctl, henv⟩ := Prod.mk.inj (chainLeg_idle_keeps insn c s t h)
    simp only [State.tapView, hctl, henv]

/-- The leg of every instruction code does, whatever chain is selected. -/
theorem legOf_keepsControl (ir number : BitVec 5) : (legOf ir number).KeepsControl := by
  rcases legOf_cases ir number with ⟨insn, c, _, e⟩ | ⟨_, e⟩ | e | e | e | e <;> rw [e]
  · exact chainLeg_keepsControl insn c
  · exact scanNLeg_keepsControl
  · exact idcodeLeg_keepsControl
  · exact haltLeg_keepsControl
  · exact restartLeg_keepsControl
  · exact bypassLeg_keepsControl

/-- Only Scan_N's update changes SCREG (10_state.md R24). -/
theorem legOf_update_screg {ir number : BitVec 5} {s t : State}
    (h : (legOf ir number).update s = .next t) :
    t.ctl.screg = s.ctl.screg ∨ (ir = 0b00010 ∧ t.ctl.screg = s.ctl.scs) := by
  rcases legOf_cases ir number with ⟨insn, c, _, e⟩ | ⟨hir, e⟩ | e | e | e | e <;> rw [e] at h
  · exact .inl (congrArg (fun v => v.1.screg) (chainLeg_update_keeps insn c s t h))
  · cases h
    exact .inr ⟨hir, rfl⟩
  all_goals cases h; exact .inl rfl

/-- A step on a TCK cycle is one of the kinds of cycle, of the leg of the instruction in the IR. -/
theorem step_tck_cycle {s t : State} {tms tdi : Bool} {rest : List Input}
    (hi : s.env.inputs = .tck tms tdi :: rest) (h : step s = .next t) :
    CycleStep (legOf s.ctl.ir s.ctl.screg) s tms tdi rest t := by
  rw [step_tck_leg hi] at h
  exact tckCycle_eq_next (legOf_keepsControl _ _) hi h

end Sys2Proof.Machine

end

/-! ## Five cycles with tms = 1 (10_state.md R21, 70_reset_and_hazards.md R311) -/

section

namespace Sys2Proof.Machine

variable {s t : State} {tdi : Bool} {rest : List Input}

/-- Where a TCK cycle with tms = 1 leads, with DBGnTRST asserted or not. -/
def State.nextUp (s : State) : TapState :=
  if s.pins.trst then .testLogicReset else s.ctl.tap.next true

/-- A step with tms = 1 moves the state machine and takes its input; the pins stay. -/
theorem step_up (hi : s.env.inputs = .tck true tdi :: rest) (h : step s = .next t) :
    t.env.inputs = rest ∧ t.ctl.tap = s.nextUp ∧ t.pins = s.pins := by
  obtain ⟨hin, htap⟩ := (step_tck_cycle hi h).moves (legOf_keepsControl _ _)
  obtain ⟨-, -, -, -, -, -, -, -, -, -, -, -, hpins, -⟩ := cyclesLeaveTheCore s t true tdi rest hi h
  exact ⟨hin, htap, hpins⟩

/-- Test-Logic-Reset is entered with tms = 1 from itself and from Select-IR-Scan only. -/
theorem TapState.next_up_eq_reset {p : TapState} (h : p.next true = .testLogicReset) :
    p = .testLogicReset ∨ p = .selectIr := by
  cases p <;> simp_all [TapState.next]

/-- A step with tms = 1 that ends in Test-Logic-Reset makes IDcode current and selects scan chain 3. -/
theorem step_up_resets (hi : s.env.inputs = .tck true tdi :: rest) (h : step s = .next t)
    (ht : t.ctl.tap = .testLogicReset) : t.ctl.ir = 0b11110 ∧ t.ctl.screg = 0b00011 := by
  obtain ⟨-, htap, -⟩ := step_up hi h
  rw [step_tck_leg hi] at h
  cases htrst : s.pins.trst with
  | true =>
    cases (tckCycle_trst htrst hi).symm.trans h
    exact ⟨rfl, rfl⟩
  | false =>
    rw [ht, State.nextUp, htrst] at htap
    have hs := (TapState.next_up_eq_reset htap.symm).imp_right fun e => And.intro e (Eq.refl true)
    obtain ⟨u, hu, reset⟩ := tckCycle_reset ⟨htrst, hi⟩ hs
    cases hu.symm.trans h
    exact ⟨reset.ir, reset.screg⟩

/-- Five moves with tms = 1 reach Test-Logic-Reset from every position. -/
theorem TapState.next_up_five (p : TapState) :
    ((((p.next true).next true).next true).next true).next true = .testLogicReset := by
  cases p <;> rfl

/-- Settles O8: five steps move the state machine to Test-Logic-Reset, and the last of them resets. -/
theorem fiveCyclesReset : Obligations.FiveCyclesReset := by
  intro s₀ a b c d e rest s₅ hi hrun
  obtain ⟨s₁, h₁, hrun⟩ := run_next hrun
  obtain ⟨s₂, h₂, hrun⟩ := run_next hrun
  obtain ⟨s₃, h₃, hrun⟩ := run_next hrun
  obtain ⟨s₄, h₄, hrun⟩ := run_next hrun
  obtain ⟨_, h₅, hrun⟩ := run_next hrun
  cases hrun
  obtain ⟨i₁, tap₁, pins₁⟩ := step_up hi h₁
  obtain ⟨i₂, tap₂, pins₂⟩ := step_up i₁ h₂
  obtain ⟨i₃, tap₃, pins₃⟩ := step_up i₂ h₃
  obtain ⟨i₄, tap₄, pins₄⟩ := step_up i₃ h₄
  obtain ⟨-, tap₅, -⟩ := step_up i₄ h₅
  have ht : s₅.ctl.tap = .testLogicReset := by
    cases htrst : s₀.pins.trst <;>
      simp [State.nextUp, tap₅, tap₄, tap₃, tap₂, tap₁, pins₄, pins₃, pins₂, pins₁, htrst,
        TapState.next_up_five]
  exact ⟨ht, step_up_resets i₄ h₅ ht⟩

end Sys2Proof.Machine

end

/-! ## What a step can be (10_state.md R22, 41_scan_chains.md R176, R177) -/

section

namespace Sys2Proof.Machine

/-- A completion of a pending request that goes on: nothing for NULL; else the register may be written, the
read result changes, and no request is pending. -/
theorem step_engine_eq_next {s t : State} {rest : List Input} {r : Request}
    (hi : s.env.inputs = .engine :: rest) (hr : s.dbg.req = some r) (h : step s = .next t) :
    t = s.afterInput rest ∨
    ∃ rdData vcr bvr bcr wvr wcr, t = { s.afterInput rest with
      dbg.req := none, dbg.rdData := rdData
      dbg.vcr := vcr, dbg.bvr := bvr, dbg.bcr := bcr, dbg.wvr := wvr, dbg.wcr := wcr } := by
  rw [step_engine hi hr] at h
  rcases exec_decodeAddress r.address r.data r.write s with
    ⟨_, e⟩ | ⟨_, _, e⟩ | ⟨get, put, hput, _, _, e⟩ <;> rw [e] at h
  · cases (requestRow_engine hi).symm.trans h
    exact .inl rfl
  · cases (requestRow_engine hi).symm.trans h
  · rw [registerRow_engine hi] at h
    split at h <;> cases h
    · obtain ⟨vcr, bvr, bcr, wvr, wcr, e⟩ := hput r.data (s.afterInput rest)
      rw [e]
      exact .inr ⟨_, _, _, _, _, _, rfl⟩
    · exact .inr ⟨_, _, _, _, _, _, rfl⟩

/-- The kinds of step: a TCK cycle, the completion of a pending request, a step of another agent, or none
with nothing left to happen. -/
inductive StepKind (s : State) : State → Prop
  | tck {t : State} {tms tdi : Bool} {rest : List Input} (input : s.env.inputs = .tck tms tdi :: rest)
      (cycle : CycleStep (legOf s.ctl.ir s.ctl.screg) s tms tdi rest t) : StepKind s t
  | request {rest : List Input} (input : s.env.inputs = .engine :: rest)
      (rdData : Option Word) (vcr : Word) (bvr bcr : Vector Word 6) (wvr wcr : Vector Word 2) :
      StepKind s { s.afterInput rest with
        dbg.req := none, dbg.rdData := rdData
        dbg.vcr := vcr, dbg.bvr := bvr, dbg.bcr := bcr, dbg.wvr := wvr, dbg.wcr := wcr }
  | nothing (inputs : List Input) : StepKind s { s with env.inputs := inputs }
  | agent {t : State} {e : Input} {rest : List Input} (input : s.env.inputs = e :: rest)
      (action : agentStep e (s.afterInput rest) = .next t) : StepKind s t

/-- Every step that goes on is of one of these kinds. -/
theorem step_eq_next {s t : State} (h : step s = .next t) : StepKind s t := by
  have other {e : Input} {rest : List Input} (hi : s.env.inputs = e :: rest)
      (htck : ∀ tms tdi, e ≠ .tck tms tdi) (hengine : e = .engine → s.dbg.req = none) :
      StepKind s t := .agent hi ((step_agent hi htck hengine).symm.trans h)
  match hi : s.env.inputs with
  | [] =>
    simp only [step, State.fetchFrame, environmentStep, hi] at h
    cases h
    exact .nothing _
  | e :: rest =>
    cases e with
    | tck tms tdi => exact .tck hi (step_tck_cycle hi h)
    | engine =>
      cases hr : s.dbg.req with
      | none => exact other hi (fun _ _ => nofun) fun _ => hr
      | some r =>
        rcases step_engine_eq_next hi hr h with rfl | ⟨rdData, vcr, bvr, bcr, wvr, wcr, rfl⟩
        · exact .nothing _
        · exact .request hi rdData vcr bvr bcr wvr wcr
    | _ => exact other hi (fun _ _ => nofun) nofun

/-! ### The steps of the other agents, branch by branch -/

/-- The halt step enters Debug state and discharges the Halt request, or changes nothing. -/
theorem State.coreHaltStep_cases (s : State) :
    s.coreHaltStep = s ∨ s.coreHaltStep = { s.enterDebugState with core.haltReq := false } := by
  unfold State.coreHaltStep
  split
  · exact .inr rfl
  · exact .inl rfl

/-- The restart step leaves Debug state with DSCR[13] = 0, or changes nothing. -/
theorem State.coreRestartStep_eq_next {s t : State} (h : s.coreRestartStep = .next t) :
    t = s ∨ (s.execEnabled = false ∧ t = State.applyEdbgrq { s with
      core.debugState := false, core.restartReq := false, core.drained := false
      dbg.coreRestarted := true }) := by
  unfold State.coreRestartStep at h
  split at h
  · exact .inr (State.leaveDebugState_eq_next h)
  · cases h; exact .inl rfl

/-- A step of software has its effect, and changes DSCR[6] with DSCR[13] = 0 only; in Debug state there is
none. -/
theorem State.coreRunsStep_cases (e : CoreEffect) (d : Option Bool) (s : State) :
    s.coreRunsStep e d = s ∨ s.coreRunsStep e d = s.applyEffect e ∨
    ∃ b, s.execEnabled = false ∧ s.coreRunsStep e d = (s.applyEffect e).setDscrBit 6 b := by
  unfold State.coreRunsStep
  split
  · exact .inl rfl
  · split
    · split
      · exact .inr (.inl rfl)
      · next b h => exact .inr (.inr ⟨b, by simpa using h, rfl⟩)
    · exact .inr (.inl rfl)

/-- A software debug event is ignored, enters Debug state, or is taken by Monitor debug-mode. -/
theorem State.softwareDebugEventStep_eq_next {kind : DebugEventKind} {s t : State}
    (h : s.softwareDebugEventStep kind = .next t) :
    t = s ∨ t = { s.enterDebugState with core.haltReq := false } ∨ ∃ e, t = s.applyEffect e := by
  unfold State.softwareDebugEventStep at h
  split at h
  · cases h; exact .inl rfl
  · split at h
    · cases h; exact .inr (.inl rfl)
    · split at h <;> cases h
      exact .inr (.inr ⟨_, rfl⟩)

/-- Recognising an imprecise Data Abort uses it up, and in Debug state sets DSCR[7]. -/
theorem State.abortRecognisedStep_cases (s : State) :
    ∃ n, s.abortRecognisedStep = { s with core.pendingAborts := n } ∨
      s.abortRecognisedStep = State.setDscrBit 7 true { s with core.pendingAborts := n } := by
  unfold State.abortRecognisedStep
  split
  · exact ⟨s.core.pendingAborts, .inl rfl⟩
  · refine ⟨s.core.pendingAborts - 1, ?_⟩
    dsimp only
    split
    · exact .inr rfl
    · exact .inl rfl

/-- An imprecise Data Abort that arises changes registers, memory and the count of pending ones. -/
theorem State.abortArisesStep_cases (r0 : Word) (stores : List (Word × Byte)) (s : State) :
    s.abortArisesStep r0 stores = s ∨
    ∃ n regs, s.abortArisesStep r0 stores = { s with
      core.pendingAborts := n, core.mem := s.core.mem.writeAll stores, core.regs := regs } := by
  unfold State.abortArisesStep
  split
  · exact .inl rfl
  · exact .inr ⟨_, _, rfl⟩

/-- An interrupt has its effect, or is ignored. -/
theorem State.interruptStep_cases (e : CoreEffect) (s : State) :
    s.interruptStep e = s ∨ s.interruptStep e = s.applyEffect e := by
  unfold State.interruptStep
  split
  · exact .inl rfl
  · exact .inr rfl

/-- The end of an instruction: none is in flight, and `InstCompl` is 1 (42_debug_execution.md R192). -/
def State.endInstruction (s : State) : State :=
  { s with core.inFlight := none, dbg.instCompl := true }

/-- The flag of an exception and the end of the instruction are independent. -/
theorem State.recordOutcome_endInstruction (o : CoreOutcome) (s : State) :
    (State.recordOutcome o s).endInstruction = State.recordOutcome o s.endInstruction := by
  cases o with
  | done => rfl
  | preciseAbort => exact apply_ite State.endInstruction _ _ _
  | undefined => exact apply_ite State.endInstruction _ _ _

/-- Completing the word in flight: its effects, the end of the instruction, and the flag of its outcome. -/
theorem State.completeInstruction_inFlight {w : Word} {s : State} (abort : Bool)
    (h : s.core.inFlight = some w) :
    s.completeInstruction abort =
      State.recordOutcome (s.armExec w abort).2 (s.armExec w abort).1.endInstruction := by
  rw [← State.recordOutcome_endInstruction]
  simp only [State.completeInstruction, h, State.endInstruction]

/-- Completing an instruction does nothing if none is in flight. -/
theorem State.completeInstruction_none {s : State} (abort : Bool) (h : s.core.inFlight = none) :
    s.completeInstruction abort = s := by
  simp only [State.completeInstruction, h]

/-- What a step of another agent leaves alone, unless it is DBGnTRST: the controller; and it starts no
instruction and places no request. -/
structure AgentFrame (s t : State) : Prop where
  ctl : t.ctl = s.ctl
  trst : t.pins.trst = s.pins.trst
  instCompl : s.dbg.instCompl = true → t.dbg.instCompl = true
  req : s.dbg.req = none → t.dbg.req = none

theorem AgentFrame.refl (s : State) : AgentFrame s s := ⟨rfl, rfl, id, id⟩

/-- Executing a word leaves alone more than an agent may change. -/
theorem ArmFrame.agentFrame {s t : State} (h : ArmFrame s t) : AgentFrame s t where
  ctl := h.ctl
  trst := by rw [h.pins]
  instCompl hc := h.instCompl.trans hc
  req hr := h.req.trans hr

theorem AgentFrame.applyEdbgrq {s t : State} (h : AgentFrame s t) : AgentFrame s t.applyEdbgrq := by
  rcases t.applyEdbgrq_cases with ⟨e, _⟩ | ⟨e, _⟩ <;> rw [e]
  · exact h
  · exact ⟨h.ctl, h.trst, h.instCompl, h.req⟩

theorem AgentFrame.recordOutcome {s t : State} (h : AgentFrame s t) (o : CoreOutcome) :
    AgentFrame s (State.recordOutcome o t) := by
  rcases t.recordOutcome_cases o with e | ⟨e, _⟩ | ⟨e, _⟩ <;> rw [e]
  · exact h
  · exact ⟨h.ctl, h.trst, h.instCompl, h.req⟩
  · exact ⟨h.ctl, h.trst, h.instCompl, h.req⟩

/-- Every step of another agent but DBGnTRST has the frame. -/
theorem agentStep_frame {e : Input} {s t : State} (he : ∀ b, e ≠ .trst b)
    (h : agentStep e s = .next t) : AgentFrame s t := by
  cases e with
  | trst b => exact absurd rfl (he b)
  | tck | engine | spiden | etm | coreSetsDscr19 => cases h; exact ⟨rfl, rfl, id, id⟩
  | dbgen | edbgrq => cases h; exact .applyEdbgrq ⟨rfl, rfl, id, id⟩
  | coreHalt =>
    cases h
    rcases s.coreHaltStep_cases with e | e <;> rw [e] <;> exact ⟨rfl, rfl, id, id⟩
  | coreRestart =>
    obtain rfl | ⟨_, rfl⟩ := State.coreRestartStep_eq_next h
    · exact .refl t
    · exact .applyEdbgrq ⟨rfl, rfl, id, id⟩
  | coreComplete abort =>
    cases h
    cases hw : s.core.inFlight with
    | none =>
      rw [s.completeInstruction_none abort hw]
      exact .refl s
    | some w =>
      rw [s.completeInstruction_inFlight abort hw]
      have hu : AgentFrame s (s.armExec w abort).1.endInstruction :=
        { (s.armExec_frame w abort).agentFrame with instCompl := fun _ => rfl }
      exact hu.recordOutcome _
  | coreRuns e d =>
    cases h
    rcases s.coreRunsStep_cases e d with h | h | ⟨b, _, h⟩ <;> rw [h] <;> exact ⟨rfl, rfl, id, id⟩
  | softwareDcc op abort => cases h; exact (s.softwareDccStep_frame op abort).agentFrame
  | softwareDebugEvent kind =>
    obtain rfl | rfl | ⟨e, rfl⟩ := State.softwareDebugEventStep_eq_next h <;>
      exact ⟨rfl, rfl, id, id⟩
  | interrupt e =>
    cases h
    rcases s.interruptStep_cases e with h | h <;> rw [h] <;> exact ⟨rfl, rfl, id, id⟩
  | impreciseAbortArises r0 stores =>
    cases h
    rcases s.abortArisesStep_cases r0 stores with h | ⟨n, regs, h⟩ <;> rw [h] <;>
      exact ⟨rfl, rfl, id, id⟩
  | impreciseAbortRecognised =>
    cases h
    obtain ⟨n, h | h⟩ := s.abortRecognisedStep_cases <;> rw [h] <;> exact ⟨rfl, rfl, id, id⟩
  | processorReset v => cases h; exact .applyEdbgrq ⟨rfl, rfl, fun _ => rfl, fun _ => rfl⟩

/-- When a cycle changes the IR. -/
theorem CycleStep.ir_cases {leg : Leg} {s t : State} {tms tdi : Bool} {rest : List Input}
    (hl : leg.KeepsControl) (h : CycleStep leg s tms tdi rest t) :
    t.ctl.ir = s.ctl.ir ∨ s.pins.trst = true ∨ s.ctl.tap = .testLogicReset ∨
    (s.ctl.tap = .selectIr ∧ tms = true) ∨
    ((s.ctl.tap = .exit1Ir ∨ s.ctl.tap = .exit2Ir) ∧ tms = true ∧ t.ctl.ir = s.ctl.irs) := by
  cases h with
  | held trst => exact .inr (.inl trst)
  | reset _ tap => exact .inr (.inr (tap.imp_right .inl))
  | quiet | irScan => exact .inl rfl
  | capture _ action => exact .inl (congrArg (fun v => v.ir) (hl.capture _ _ action))
  | shift _ action => exact .inl (congrArg (fun v => v.1.ir) (hl.shift tdi _ _ action))
  | update _ _ action => exact .inl (congrArg TapView.ir (hl.update _ _ action))
  | idle _ _ action => exact .inl (congrArg (fun v => v.1.ir) (hl.idle _ _ action))
  | updateIr hm _ tap => exact .inr (.inr (.inr (.inr ⟨tap, hm, rfl⟩)))

/-- When a cycle changes SCREG. -/
theorem CycleStep.screg_cases {ir number : BitVec 5} {s t : State} {tms tdi : Bool} {rest : List Input}
    (h : CycleStep (legOf ir number) s tms tdi rest t) :
    t.ctl.screg = s.ctl.screg ∨ s.pins.trst = true ∨ s.ctl.tap = .testLogicReset ∨
    (s.ctl.tap = .selectIr ∧ tms = true) ∨
    (ir = 0b00010 ∧ (s.ctl.tap = .exit1Dr ∨ s.ctl.tap = .exit2Dr) ∧ tms = true ∧
      t.ctl.screg = s.ctl.scs) := by
  have hl := legOf_keepsControl ir number
  cases h with
  | held trst => exact .inr (.inl trst)
  | reset _ tap => exact .inr (.inr (tap.imp_right .inl))
  | quiet | irScan | updateIr => exact .inl rfl
  | capture _ action => exact .inl (congrArg ScanView.screg (hl.capture _ _ action))
  | shift _ action => exact .inl (congrArg (fun v => v.1.screg) (hl.shift tdi _ _ action))
  | update hm enters action =>
    exact (legOf_update_screg action).imp_right fun ⟨hir, hs⟩ =>
      .inr (.inr (.inr ⟨hir, enters.2, hm, hs⟩))
  | idle _ _ action => exact .inl (congrArg Prod.snd (hl.idle _ _ action))

/-- Settles O58: by the kind of step, and for a TCK cycle by the kind of cycle. -/
theorem whenIrAndScregChange : Obligations.WhenIrAndScregChange := by
  intro s t h
  cases step_eq_next h with
  | @tck _ tms tdi rest input cycle =>
    exact ⟨
      fun hne => .inr ⟨tms, tdi, rest, input,
        (cycle.ir_cases (legOf_keepsControl _ _)).resolve_left hne⟩,
      fun hne => .inr ⟨tms, tdi, rest, input, cycle.screg_cases.resolve_left hne⟩⟩
  | request | nothing => exact ⟨fun hne => absurd rfl hne, fun hne => absurd rfl hne⟩
  | @agent _ e rest input action =>
    by_cases he : ∃ b, e = .trst b
    · obtain ⟨b, rfl⟩ := he
      cases action
      cases b with
      | true => exact ⟨fun _ => .inl ⟨rest, input⟩, fun _ => .inl ⟨rest, input⟩⟩
      | false => exact ⟨fun hne => absurd rfl hne, fun hne => absurd rfl hne⟩
    · have hctl := (agentStep_frame (not_exists.mp he) action).ctl
      exact ⟨fun hne => absurd (congrArg Controller.ir hctl) hne,
        fun hne => absurd (congrArg Controller.screg hctl) hne⟩

end Sys2Proof.Machine

end

/-! ## The invariant (10_state.md R35, R50, R57) -/

section

namespace Sys2Proof.Machine

/-- The clauses of the invariant about the core and the debug unit, but for EDBGRQ's. -/
structure State.UnitInv (s : State) : Prop where
  memory : Memory.wf s.core.mem = true
  views : s.dbg.dscrBits &&& 0x60000003 = 0
  disabledComplete : s.execEnabled = false → s.dbg.instCompl = true
  abortComplete : s.stickyPreciseAbort = true → s.dbg.instCompl = true
  inFlight : s.core.inFlight.isSome = !s.dbg.instCompl
  enabledHalted : s.execEnabled = true → s.core.debugState = true
  restartHalted : s.core.restartReq = true → s.core.debugState = true
  haltRunning : s.core.haltReq = true → s.core.debugState = false

/-- With EDBGRQ's: an asserted EDBGRQ is a Halt request. -/
structure State.CoreInv (s : State) : Prop extends s.UnitInv where
  edbgrqHeld : s.pins.edbgrq = true → s.pins.dbgen = true → s.core.debugState = false →
    s.core.haltReq = true

/-- The clauses of the invariant about the controller. -/
structure State.ScanInv (s : State) : Prop where
  trstHolds : s.pins.trst = true →
    s.ctl.tap = .testLogicReset ∧ s.ctl.ir = 0b11110 ∧ s.ctl.screg = 0b00011
  readyFresh : s.ctl.tap.inScan = true → s.ctl.ready = true → s.dbg.instCompl = true
  requestFresh : s.ctl.tap.inScan = true → s.connectedChain = some 7 → s.ctl.reqReady = true →
    s.dbg.req = none

/-- The invariant is its two halves. -/
theorem State.inv_iff (s : State) : s.Inv ↔ s.CoreInv ∧ s.ScanInv :=
  ⟨fun h => ⟨{ h with }, { h with }⟩, fun ⟨h, k⟩ => { h, k with }⟩

/-! ### The core and the debug unit -/

section CoreInvariant

variable {s t : State}

/-- Writing a stored DSCR bit other than DSCR[13]; setting DSCR[6] only with `InstCompl` = 1. -/
theorem State.UnitInv.setDscrBit (h : s.UnitInv) {n : Nat} {b : Bool} (hn : n < 32)
    (hstored : n ∉ [0, 1, 13, 29, 30]) (h6 : n = 6 → b = true → s.dbg.instCompl = true) :
    (s.setDscrBit n b).UnitInv := by
  have h13 : n ≠ 13 := by rintro rfl; simp at hstored
  have he : (s.setDscrBit n b).execEnabled = s.execEnabled := s.setDscrBit_execEnabled b hn h13
  exact { h with
    views := setBit_view h.views (by simp_all) hn
    disabledComplete := fun hd => h.disabledComplete (he.symm.trans hd)
    abortComplete := fun ha => by
      rw [s.setDscrBit_sticky b hn] at ha
      split at ha
      · exact h6 ‹_› ha
      · exact h.abortComplete ha
    enabledHalted := fun hd => h.enabledHalted (he.symm.trans hd) }

theorem State.CoreInv.setDscrBit (h : s.CoreInv) {n : Nat} {b : Bool} (hn : n < 32)
    (hstored : n ∉ [0, 1, 13, 29, 30]) (h6 : n = 6 → b = true → s.dbg.instCompl = true) :
    (s.setDscrBit n b).CoreInv :=
  { h.toUnitInv.setDscrBit hn hstored h6 with edbgrqHeld := h.edbgrqHeld }

/-- Looking at EDBGRQ makes its clause hold. -/
theorem State.UnitInv.applyEdbgrq (h : s.UnitInv) : s.applyEdbgrq.CoreInv := by
  rcases s.applyEdbgrq_cases with ⟨e, hno⟩ | ⟨e, _, _, hrun⟩ <;> rw [e]
  · exact { h with edbgrqHeld := fun h1 h2 h3 => absurd ⟨h1, h2, h3⟩ hno }
  · exact { h with
      haltRunning := fun _ => hrun
      edbgrqHeld := fun _ _ _ => rfl }

/-- Entry to Debug state, which discharges the Halt request. -/
theorem State.UnitInv.enterDebugState (h : s.UnitInv) :
    State.CoreInv { s.enterDebugState with core.haltReq := false } :=
  { h with
    enabledHalted := fun _ => rfl
    restartHalted := fun _ => rfl
    haltRunning := nofun
    edbgrqHeld := nofun }

/-- The end of an instruction. -/
theorem State.CoreInv.endInstruction (h : s.CoreInv) : s.endInstruction.CoreInv :=
  { h with
    disabledComplete := fun _ => rfl
    abortComplete := fun _ => rfl
    inFlight := rfl }

/-- The flag of an exception, once `InstCompl` is 1. -/
theorem State.CoreInv.recordOutcome (h : s.CoreInv) (hc : s.dbg.instCompl = true)
    (o : CoreOutcome) : (State.recordOutcome o s).CoreInv := by
  rcases s.recordOutcome_cases o with e | ⟨e, _⟩ | ⟨e, _⟩ <;> rw [e]
  · exact h
  · exact h.setDscrBit (by decide) (by decide) fun _ _ => hc
  · exact h.setDscrBit (by decide) (by decide) nofun

/-- What an effect on registers and memory keeps. -/
theorem State.CoreInv.applyEffect (h : s.CoreInv) (e : CoreEffect) : (s.applyEffect e).CoreInv :=
  { h with memory := Memory.wf_writeAll _ h.memory }

/-- What executing a word keeps. -/
theorem State.CoreInv.of_armFrame (h : s.CoreInv) (k : ArmFrame s t) : t.CoreInv := by
  have kept : State.CoreInv { t with dbg.dscrBits := s.dbg.dscrBits } :=
    { memory := k.memory h.memory
      views := h.views
      disabledComplete := fun hd => k.instCompl.trans (h.disabledComplete hd)
      abortComplete := fun ha => k.instCompl.trans (h.abortComplete ha)
      inFlight := by rw [k.inFlight, k.instCompl]; exact h.inFlight
      enabledHalted := fun he => k.debugState.trans (h.enabledHalted he)
      restartHalted := by rw [k.restartReq, k.debugState]; exact h.restartHalted
      haltRunning := by rw [k.haltReq, k.debugState]; exact h.haltRunning
      edbgrqHeld := by rw [k.pins, k.debugState, k.haltReq]; exact h.edbgrqHeld }
  rcases k.dscr with e | e
  · rw [← e] at kept
    exact kept
  · have flagged := kept.setDscrBit (n := 7) (b := true) (by decide) (by decide) nofun
    simp only [State.setDscrBit, ← e] at flagged
    exact flagged

/-- Clearing stored bits stores no view bit. -/
theorem and_view {w : Word} (h : w &&& 0x60000003 = 0) (m : Word) : w &&& m &&& 0x60000003 = 0 :=
  calc w &&& m &&& 0x60000003
    _ = (w &&& 0x60000003) &&& m := by ac_rfl
    _ = 0 := by rw [h]; exact BitVec.zero_and

/-- The sticky flags may be cleared. -/
theorem State.CoreInv.clearSticky (h : s.CoreInv) : s.clearSticky.CoreInv := by
  have he : s.clearSticky.execEnabled = s.execEnabled := by
    simp [State.execEnabled, -BitVec.getLsbD_eq_getElem]
  have ha : s.clearSticky.stickyPreciseAbort = false := by
    simp [State.stickyPreciseAbort, -BitVec.getLsbD_eq_getElem]
  exact { h with
    views := and_view h.views _
    disabledComplete := fun hd => h.disabledComplete (he.symm.trans hd)
    abortComplete := fun ha' => absurd (ha.symm.trans ha') Bool.false_ne_true
    enabledHalted := fun hd => h.enabledHalted (he.symm.trans hd) }

/-- A word written under a mask: the bits of the mask from the one value, the others from the other. -/
theorem getLsbD_masked (b v m : Word) (k : Nat) :
    ((b &&& ~~~m) ||| (v &&& m)).getLsbD k = if m.getLsbD k then v.getLsbD k else b.getLsbD k := by
  by_cases hk : k < 32
  · cases hm : m.getLsbD k <;> simp [hk, hm, -BitVec.getLsbD_eq_getElem]
  · simp [BitVec.getLsbD_of_ge _ k (by omega : 32 ≤ k)]

/-- An update of scan chain 1 that goes on. -/
theorem State.CoreInv.update1 (h : s.CoreInv) {insn : ScanInsn} (hn : s.update1 insn = .next t) :
    t.CoreInv := by
  obtain ⟨_, rfl⟩ | ⟨_, rfl, hset, hclear⟩ := State.update1_eq_next hn
  · exact h
  have bit13 := getLsbD_masked s.dbg.dscrBits s.ctl.s1 (tapWriteMask s.cfg) 13
  have bit6 := getLsbD_masked s.dbg.dscrBits s.ctl.s1 (tapWriteMask s.cfg) 6
  rw [tapWriteMask_bit13, if_pos rfl] at bit13
  rw [tapWriteMask_bit6, if_neg Bool.false_ne_true] at bit6
  exact { h with
    views := by
      have hm : s.ctl.s1 &&& tapWriteMask s.cfg &&& 0x60000003 = 0 := by
        rw [BitVec.and_assoc, tapWriteMask_view]
        exact BitVec.and_zero
      rw [BitVec.and_or_distrib_right, and_view h.views, hm]
      exact BitVec.or_zero
    disabledComplete := fun hd => by
      have h13 := bit13.symm.trans hd
      cases he : s.execEnabled with
      | true => exact hclear h13 he
      | false => exact h.disabledComplete he
    abortComplete := fun ha => h.abortComplete (bit6.symm.trans ha)
    enabledHalted := fun he => by
      rcases hset (bit13.symm.trans he) with he | hd
      · exact h.enabledHalted he
      · exact hd }

end CoreInvariant

/-! ### The actions of the legs -/

/-- An action keeps the core's part of the invariant, whenever it goes on. -/
def KeepsInv (f : State → Result State) : Prop :=
  ∀ s t, s.CoreInv → f s = .next t → t.CoreInv

theorem KeepsInv.of_next {f : State → State} (h : ∀ s : State, s.CoreInv → (f s).CoreInv) :
    KeepsInv fun s => .next (f s) := by
  rintro s _ hs ⟨⟩
  exact h s hs

theorem KeepsInv.of_refused (r : Refusal) : KeepsInv fun _ => .refused r := by
  rintro s _ _ ⟨⟩

/-- A Halt request is made outside Debug state only. -/
theorem State.haltAction_keepsInv : KeepsInv State.haltAction := by
  intro s t hs h
  rcases s.haltAction_cases with ⟨e, _⟩ | ⟨e, hrun, _⟩ <;> cases e.symm.trans h
  · exact hs
  · exact { hs with
      haltRunning := fun _ => hrun
      edbgrqHeld := fun _ _ _ => rfl }

/-- A Restart request is made in Debug state only. -/
theorem State.restartAction_keepsInv : KeepsInv State.restartAction := by
  intro s t hs h
  obtain ⟨hdebug, rfl⟩ := State.restartAction_eq_next h
  exact { hs with restartHalted := fun _ => hdebug }

/-- An instruction is issued with DSCR[13] = 1 and DSCR[6] = 0 only. -/
theorem State.tryIssue_keepsInv : KeepsInv State.tryIssue := by
  intro s t hs h
  obtain rfl | ⟨rfl, _, hexec, _, hsticky, _⟩ := State.tryIssue_eq_next h
  · exact hs
  · exact { hs with
      disabledComplete := fun hd => absurd (hexec.symm.trans hd) Bool.false_ne_true.symm
      abortComplete := fun ha => absurd (hsticky.symm.trans ha) Bool.false_ne_true
      inFlight := rfl }

/-- The four actions of a leg keep the core's part of the invariant. -/
structure Leg.KeepsInv (leg : Leg) : Prop where
  capture : Machine.KeepsInv leg.capture
  shift : ∀ tdi, Machine.KeepsInv (leg.shift tdi)
  update : Machine.KeepsInv leg.update
  idle : Machine.KeepsInv leg.idle

theorem bypassLeg_keepsInv : bypassLeg.KeepsInv where
  capture := .of_next fun _ h => { h with }
  shift _ := .of_next fun _ h => { h with }
  update := .of_next fun _ h => h
  idle := .of_next fun _ h => h

theorem haltLeg_keepsInv : haltLeg.KeepsInv :=
  { bypassLeg_keepsInv with idle := State.haltAction_keepsInv }

theorem restartLeg_keepsInv : restartLeg.KeepsInv :=
  { bypassLeg_keepsInv with idle := State.restartAction_keepsInv }

theorem idcodeLeg_keepsInv : idcodeLeg.KeepsInv where
  capture := .of_next fun _ h => { h with }
  shift _ := .of_next fun _ h => { h with }
  update := .of_next fun _ h => h
  idle := .of_next fun _ h => h

theorem scanNLeg_keepsInv : scanNLeg.KeepsInv where
  capture := .of_next fun _ h => { h with }
  shift _ := .of_next fun _ h => { h with }
  update := .of_next fun _ h => { h with }
  idle := .of_next fun _ h => h

theorem chain0Leg_keepsInv : chain0Leg.KeepsInv where
  capture := .of_next fun _ h => { h with }
  shift _ := .of_next fun _ h => { h with }
  update := .of_next fun _ h => h
  idle := .of_next fun _ h => h

theorem chain1Leg_keepsInv (insn : ScanInsn) : (chain1Leg insn).KeepsInv where
  capture := .of_next fun s h => by
    cases insn with
    | intest => exact State.CoreInv.clearSticky (s := { s with ctl.s1 := s.dscr }) { h with }
    | extest => exact { h with }
  shift _ := .of_next fun _ h => { h with }
  update _ _ h hn := h.update1 hn
  idle := .of_next fun _ h => h

theorem chain4Leg_keepsInv (insn : ScanInsn) : (chain4Leg insn).KeepsInv where
  capture := .of_next fun _ h => { h with }
  shift _ := .of_next fun _ h => { h with }
  update := .of_next fun s h => by
    rcases s.update4_cases insn with e | e <;> rw [e]
    · exact h
    · exact { h with }
  idle := State.tryIssue_keepsInv

theorem chain5Leg_keepsInv (insn : ScanInsn) : (chain5Leg insn).KeepsInv where
  capture := .of_next fun _ h => by cases insn <;> exact { h with }
  shift _ := .of_next fun _ h => { h with }
  update := .of_next fun s h => by
    rcases s.update5_cases insn with e | e <;> rw [e]
    · exact h
    · exact { h with }
  idle := State.tryIssue_keepsInv

theorem chain6Leg_keepsInv (insn : ScanInsn) : (chain6Leg insn).KeepsInv where
  capture := .of_next fun _ h => by cases insn <;> exact { h with }
  shift _ := .of_next fun _ h => { h with }
  update := .of_next fun _ h => by cases insn <;> exact { h with }
  idle := .of_next fun _ h => h

theorem chain7Leg_keepsInv : chain7Leg.KeepsInv where
  capture := .of_next fun s h => by
    obtain ⟨n, s7, rdData, e⟩ := s.capture7_eq
    rw [e]
    exact { h with }
  shift tdi := .of_next fun s h => by
    obtain ⟨s7, e⟩ := s.shift7_eq tdi
    rw [e]
    exact { h with }
  update s t h hn := by
    obtain rfl | ⟨rfl, _⟩ := State.placeRequest_eq_next hn
    · exact h
    · exact { h with }
  idle := .of_next fun _ h => h

theorem undescribedLeg_keepsInv (r : Refusal) : (undescribedLeg r).KeepsInv where
  capture := .of_refused r
  shift _ := .of_refused r
  update := .of_refused r
  idle := .of_next fun _ h => h

/-- Every leg the IR can connect keeps the core's part of the invariant. -/
theorem legOf_keepsInv (ir number : BitVec 5) : (legOf ir number).KeepsInv := by
  rcases legOf_cases ir number with ⟨insn, c, _, e⟩ | ⟨_, e⟩ | e | e | e | e <;> rw [e]
  · rcases chainLeg_cases insn c with e | e | e | e | e | e | ⟨r, e⟩ <;> rw [e]
    · exact chain0Leg_keepsInv
    · exact chain1Leg_keepsInv insn
    · exact chain4Leg_keepsInv insn
    · exact chain5Leg_keepsInv insn
    · exact chain6Leg_keepsInv insn
    · exact chain7Leg_keepsInv
    · exact undescribedLeg_keepsInv r
  · exact scanNLeg_keepsInv
  · exact idcodeLeg_keepsInv
  · exact haltLeg_keepsInv
  · exact restartLeg_keepsInv
  · exact bypassLeg_keepsInv

/-! ### A TCK cycle -/

section Cycle

variable {leg : Leg} {s t : State} {tms tdi : Bool} {rest : List Input}

/-- A DBGTAP reset touches neither the core nor the debug unit. -/
theorem DbgtapReset.coreInv {p : TapState} (k : DbgtapReset s t p rest) (h : s.CoreInv) :
    t.CoreInv := by
  obtain ⟨-, -, -, hdbg, hcore, hpins, -⟩ := k
  obtain ⟨ctl, dbg, core, pins, cfg, etm, env⟩ := t
  subst hdbg hcore hpins
  exact { h with }

/-- A cycle keeps what its leg's actions keep. -/
theorem CycleStep.coreInv (hl : leg.KeepsInv) (h : s.CoreInv)
    (k : CycleStep leg s tms tdi rest t) : t.CoreInv := by
  cases k with
  | held _ reset | reset _ _ reset => exact reset.coreInv h
  | quiet | irScan | updateIr => exact { h with }
  | capture _ action =>
    have hu := hl.capture _ _ (by exact { h with }) action
    exact { hu with }
  | shift _ action =>
    have hu := hl.shift tdi _ _ (by exact { h with }) action
    exact { hu with }
  | update _ _ action => exact hl.update _ _ (by exact { h with }) action
  | idle _ _ action => exact hl.idle _ _ (by exact { h with }) action

/-- A quiet cycle that ends inside a DR scan began there. -/
theorem TapState.inScan_of_quiet {p : TapState} (hq : p.quiet tms = true)
    (h : (p.next tms).inScan = true) : p.inScan = true := by
  cases p <;> cases tms <;> simp_all [TapState.next, TapState.inScan, TapState.quiet]

/-- Outside a DR scan, with DBGnTRST deasserted, nothing is asked of the controller. -/
theorem State.ScanInv.of_outside (htrst : t.pins.trst = false) (h : t.ctl.tap.inScan = false) :
    t.ScanInv where
  trstHolds ht := absurd (htrst.symm.trans ht) Bool.false_ne_true
  readyFresh hin := absurd (h.symm.trans hin) Bool.false_ne_true
  requestFresh hin := absurd (h.symm.trans hin) Bool.false_ne_true

/-- With scan chain 7 connected the leg is scan chain 7's. -/
theorem legOf_chain7 (h : s.connectedChain = some 7) : legOf s.ctl.ir s.ctl.screg = chain7Leg := by
  obtain ⟨⟨insn, c⟩, he, rfl⟩ := Option.map_eq_some_iff.mp h
  exact legOf_of_effective he

/-- A capture of scan chain 7 latches whether a request is pending. -/
theorem chain7Leg_capture_reqReady (h : chain7Leg.capture s = .next t) :
    t.ctl.reqReady = s.reqCompl := by
  obtain ⟨n, s7, rdData, e⟩ := s.capture7_eq
  cases h
  rw [e]
  rfl

/-- The chain the controller acts on depends on the IR and SCREG. -/
theorem connectedChain_congr (hir : t.ctl.ir = s.ctl.ir) (hscreg : t.ctl.screg = s.ctl.screg) :
    t.connectedChain = s.connectedChain := by
  simp only [State.connectedChain, hir, hscreg]

/-- A cycle keeps the controller's part: a capture makes the latches fresh, and what follows it within the
scan leaves alone both the latches and what they say. -/
theorem CycleStep.scanInv (h : s.ScanInv) (hpins : t.pins = s.pins)
    (k : CycleStep (legOf s.ctl.ir s.ctl.screg) s tms tdi rest t) : t.ScanInv := by
  have hl := legOf_keepsControl s.ctl.ir s.ctl.screg
  obtain ⟨-, htap⟩ := k.moves hl
  have outside (htrst : s.pins.trst = false) (ho : (s.ctl.tap.next tms).inScan = false) :
      t.ScanInv := by
    rw [htrst, if_neg Bool.false_ne_true] at htap
    exact .of_outside (by rw [hpins, htrst]) (by rw [htap, ho])
  have released (htrst : s.pins.trst = false) : t.pins.trst = true → False := by
    rw [hpins, htrst]
    exact Bool.false_ne_true
  cases k with
  | held _ reset =>
    have ho : t.ctl.tap.inScan = false := by rw [reset.tap]; rfl
    exact
      { trstHolds := fun _ => ⟨reset.tap, reset.ir, reset.screg⟩
        readyFresh := fun hin => absurd (ho.symm.trans hin) Bool.false_ne_true
        requestFresh := fun hin => absurd (ho.symm.trans hin) Bool.false_ne_true }
  | reset due tap =>
    refine outside due.1 ?_
    rcases tap with e | ⟨e, rfl⟩ <;> rw [e]
    · cases tms <;> rfl
    · rfl
  | quiet due hq =>
    have began := TapState.inScan_of_quiet hq
    exact
      { trstHolds := fun ht => (released due.1 ht).elim
        readyFresh := fun hin => h.readyFresh (began hin)
        requestFresh := fun hin => h.requestFresh (began hin) }
  | @capture u due action =>
    have hu := hl.capture _ _ action
    have hready : u.ctl.ready = s.dbg.instCompl := congrArg ScanView.ready hu
    have hcompl : u.dbg.instCompl = s.dbg.instCompl := congrArg ScanView.instCompl hu
    have hreq : u.dbg.req = s.dbg.req := congrArg ScanView.req hu
    have hchain : u.connectedChain = s.connectedChain :=
      connectedChain_congr (congrArg (fun v => v.ir) hu) (congrArg ScanView.screg hu)
    exact
      { trstHolds := fun ht => (released due.1.1 ht).elim
        readyFresh := fun _ hr => hcompl.trans (hready.symm.trans hr)
        requestFresh := fun _ hc hr => by
          rw [legOf_chain7 (hchain.symm.trans hc)] at action
          have hnone := (chain7Leg_capture_reqReady action).symm.trans hr
          exact hreq.trans (Option.isNone_iff_eq_none.mp hnone) }
  | @shift u due action =>
    obtain ⟨hu, hreqReady⟩ := Prod.mk.inj (hl.shift tdi _ _ action)
    have hready : u.ctl.ready = s.ctl.ready := congrArg ScanView.ready hu
    have hcompl : u.dbg.instCompl = s.dbg.instCompl := congrArg ScanView.instCompl hu
    have hreq : u.dbg.req = s.dbg.req := congrArg ScanView.req hu
    have hchain : u.connectedChain = s.connectedChain :=
      connectedChain_congr (congrArg (fun v => v.ir) hu) (congrArg ScanView.screg hu)
    have began : s.ctl.tap.inScan = true := by rw [due.2]; rfl
    exact
      { trstHolds := fun ht => (released due.1.1 ht).elim
        readyFresh := fun _ hr => hcompl.trans (h.readyFresh began (hready.symm.trans hr))
        requestFresh := fun _ hc hr =>
          hreq.trans (h.requestFresh began (hchain.symm.trans hc) (hreqReady.symm.trans hr)) }
  | update hm enters =>
    subst hm
    refine outside enters.1.1 ?_
    rcases enters.2 with e | e <;> rw [e] <;> rfl
  | idle hm enters =>
    subst hm
    refine outside enters.1.1 ?_
    rcases enters.2 with e | e <;> rw [e] <;> rfl
  | irScan due tap =>
    refine outside due.1 ?_
    rcases tap with e | e <;> rw [e] <;> cases tms <;> rfl
  | updateIr hm due tap =>
    subst hm
    refine outside due.1 ?_
    rcases tap with e | e <;> rw [e] <;> rfl

end Cycle

/-! ### The other agents -/

/-- A processor reset stores no view bit, and clears DSCR[13]. -/
theorem resetDscr_view (v : Word) : resetDscr v &&& 0x60000003 = 0 := by
  rw [resetDscr, BitVec.and_assoc]
  exact BitVec.and_zero

theorem resetDscr_bit13 (v : Word) : (resetDscr v).getLsbD 13 = false := by
  simp [resetDscr, -BitVec.getLsbD_eq_getElem]

/-- Every step of another agent keeps the core's part of the invariant. -/
theorem agentStep_keepsInv (e : Input) : KeepsInv (agentStep e) := by
  intro s t hs h
  cases e with
  | trst b => cases h; cases b <;> exact { hs with }
  | tck | engine | spiden | etm => cases h; exact { hs with }
  | coreSetsDscr19 => cases h; exact hs.setDscrBit (by decide) (by decide) nofun
  | dbgen | edbgrq => cases h; exact State.UnitInv.applyEdbgrq { hs with }
  | coreHalt =>
    cases h
    rcases s.coreHaltStep_cases with e | e <;> rw [e]
    · exact hs
    · exact hs.enterDebugState
  | coreRestart =>
    obtain rfl | ⟨hexec, rfl⟩ := State.coreRestartStep_eq_next h
    · exact hs
    · exact State.UnitInv.applyEdbgrq { hs with
        enabledHalted := fun he => absurd (hexec.symm.trans he) Bool.false_ne_true
        restartHalted := nofun
        haltRunning := fun _ => rfl }
  | coreComplete abort =>
    cases h
    cases hw : s.core.inFlight with
    | none => rw [s.completeInstruction_none abort hw]; exact hs
    | some w =>
      rw [s.completeInstruction_inFlight abort hw]
      exact (hs.of_armFrame (s.armExec_frame w abort)).endInstruction.recordOutcome rfl _
  | coreRuns e d =>
    cases h
    rcases s.coreRunsStep_cases e d with h | h | ⟨b, hexec, h⟩ <;> rw [h]
    · exact hs
    · exact hs.applyEffect e
    · exact (hs.applyEffect e).setDscrBit (by decide) (by decide)
        fun _ _ => hs.disabledComplete hexec
  | softwareDcc op abort => cases h; exact hs.of_armFrame (s.softwareDccStep_frame op abort)
  | softwareDebugEvent kind =>
    obtain rfl | rfl | ⟨e, rfl⟩ := State.softwareDebugEventStep_eq_next h
    · exact hs
    · exact hs.enterDebugState
    · exact hs.applyEffect e
  | interrupt e =>
    cases h
    rcases s.interruptStep_cases e with h | h <;> rw [h]
    · exact hs
    · exact hs.applyEffect e
  | impreciseAbortArises r0 stores =>
    cases h
    rcases s.abortArisesStep_cases r0 stores with h | ⟨n, regs, h⟩ <;> rw [h]
    · exact hs
    · exact { hs with memory := Memory.wf_writeAll _ hs.memory }
  | impreciseAbortRecognised =>
    cases h
    obtain ⟨n, h | h⟩ := s.abortRecognisedStep_cases <;> rw [h]
    · exact { hs with }
    · exact State.CoreInv.setDscrBit (n := 7) (by exact { hs with }) (by decide) (by decide) nofun
  | processorReset v =>
    cases h
    exact State.UnitInv.applyEdbgrq
      { memory := Memory.wf_writeAll _ hs.memory
        views := resetDscr_view v.dscr
        disabledComplete := fun _ => rfl
        abortComplete := fun _ => rfl
        inFlight := rfl
        enabledHalted := fun he => absurd ((resetDscr_bit13 v.dscr).symm.trans he) Bool.false_ne_true
        restartHalted := nofun
        haltRunning := fun _ => rfl }

/-- Every step of another agent keeps the controller's part: DBGnTRST resets the controller, and the others
leave it alone. -/
theorem agentStep_scanInv {e : Input} {s t : State} (hs : s.ScanInv)
    (h : agentStep e s = .next t) : t.ScanInv := by
  by_cases he : ∃ b, e = .trst b
  · obtain ⟨b, rfl⟩ := he
    cases h
    cases b with
    | true =>
      exact
        { trstHolds := fun _ => ⟨rfl, rfl, rfl⟩
          readyFresh := nofun
          requestFresh := nofun }
    | false => exact { hs with trstHolds := nofun }
  · obtain ⟨hctl, htrst, hcompl, hreq⟩ := agentStep_frame (not_exists.mp he) h
    exact
      { trstHolds := by rw [htrst, hctl]; exact hs.trstHolds
        readyFresh := by rw [hctl]; exact fun hin hr => hcompl (hs.readyFresh hin hr)
        requestFresh := by
          rw [hctl, connectedChain_congr (congrArg Controller.ir hctl) (congrArg Controller.screg hctl)]
          exact fun hin hc hr => hreq (hs.requestFresh hin hc hr) }

/-- Settles O53: by the kind of step, for the core and debug unit and for the controller. -/
theorem stepKeepsInvariant : Obligations.StepKeepsInvariant := by
  intro s t inv h
  obtain ⟨hcore, hscan⟩ := s.inv_iff.mp inv
  refine t.inv_iff.mpr ?_
  cases step_eq_next h with
  | @tck _ tms tdi rest input cycle =>
    obtain ⟨-, -, -, -, -, -, -, -, -, -, -, -, hpins, -⟩ :=
      cyclesLeaveTheCore s t tms tdi rest input h
    exact ⟨cycle.coreInv (legOf_keepsInv _ _) hcore, cycle.scanInv hscan hpins⟩
  | request => exact ⟨{ hcore with }, { hscan with requestFresh := fun _ _ _ => rfl }⟩
  | nothing => exact ⟨{ hcore with }, { hscan with }⟩
  | agent _ action =>
    exact ⟨agentStep_keepsInv _ _ _ (by exact { hcore with }) action,
      agentStep_scanInv (by exact { hscan with }) action⟩

end Sys2Proof.Machine

end

/-! ## The general registers and their banks (10_state.md R51, 42_debug_execution.md R198) -/

section

namespace Sys2Proof.Machine

/-- The modes the family names: User, FIQ, IRQ, Supervisor, Monitor, Abort, Undefined and System (log 30). -/
def namedModes : List Nat := [0x10, 0x11, 0x12, 0x13, 0x16, 0x17, 0x1B, 0x1F]

/-- How far the bank of a named mode's R13 and R14 stands above User mode's. -/
def bankOffset (mode : Nat) : Nat :=
  match mode with
  | 0x11 => 7
  | 0x12 => 9
  | 0x13 => 11
  | 0x17 => 13
  | 0x1B => 15
  | 0x16 => 17
  | _ => 0

/-- Where a register of a named mode stands: R0 to R7 are shared by all, R8 to R12 apart in FIQ mode, R13 and
R14 apart in every mode but User and System. -/
def registerSlot (mode r : Nat) : Nat :=
  if r < 8 then r
  else if r < 13 then (if mode = 0x11 then r + 7 else r)
  else r + bankOffset mode

/-- The model's layout of the banks, in one line. -/
theorem gprIndex_eq (mode : BitVec 5) (r : BitVec 4) :
    gprIndex mode r =
      if r = 15 ∨ (8 ≤ r.toNat ∧ mode.toNat ∉ namedModes) then none
      else some (Fin.ofNat 32 (registerSlot mode.toNat r.toNat)) := by
  have all : ∀ r : BitVec 4, ∀ mode : BitVec 5, gprIndex mode r =
      if r = 15 ∨ (8 ≤ r.toNat ∧ mode.toNat ∉ namedModes) then none
      else some (Fin.ofNat 32 (registerSlot mode.toNat r.toNat)) := by decide
  exact all r mode

theorem bankOffset_le (m : Nat) : bankOffset m ≤ 17 := by
  unfold bankOffset
  split <;> omega

/-- Two named modes share R13 and R14 if they are one mode, or User and System. -/
theorem bankOffset_eq_iff {m n : Nat} (hm : m ∈ namedModes) (hn : n ∈ namedModes) :
    bankOffset m = bankOffset n ↔ m = n ∨ (m ∈ [0x10, 0x1F] ∧ n ∈ [0x10, 0x1F]) := by
  have all : ∀ m ∈ namedModes, ∀ n ∈ namedModes,
      (bankOffset m = bankOffset n ↔ m = n ∨ (m ∈ [0x10, 0x1F] ∧ n ∈ [0x10, 0x1F])) := by decide
  exact all m hm n hn

theorem registerSlot_lt (m : Nat) {r : Nat} (hr : r < 15) : registerSlot m r < 32 := by
  have hb := bankOffset_le m
  unfold registerSlot
  split_ifs <;> omega

/-- Different registers of one mode stand in different places. -/
theorem registerSlot_injective {m q r : Nat} (h : registerSlot m q = registerSlot m r) : q = r := by
  have fiq : m = 0x11 → bankOffset m = 7 := by rintro rfl; rfl
  unfold registerSlot at h
  split_ifs at h <;> omega

/-- When two modes keep R8 to R14 in one place. -/
theorem registerSlot_eq_iff {m n r : Nat} (hm : m ∈ namedModes) (hn : n ∈ namedModes) (h8 : ¬ r < 8) :
    registerSlot m r = registerSlot n r ↔
      m = n ∨ (m ∈ [0x10, 0x1F] ∧ n ∈ [0x10, 0x1F]) ∨ (r < 13 ∧ m ≠ 0x11 ∧ n ≠ 0x11) := by
  unfold registerSlot
  rw [if_neg h8, if_neg h8]
  by_cases h13 : r < 13
  · simp only [h13, if_true, true_and, List.mem_cons, List.not_mem_nil, or_false]
    split_ifs <;> omega
  · simp only [h13, if_false, false_and, or_false, Nat.add_left_cancel_iff]
    exact bankOffset_eq_iff hm hn

/-- A register exists unless it is R15, or R8 to R14 of a mode without a name. -/
theorem gprIndex_eq_none_iff (m : BitVec 5) (r : BitVec 4) :
    gprIndex m r = none ↔ r = 15 ∨ (8 ≤ r.toNat ∧ m.toNat ∉ namedModes) := by
  rw [gprIndex_eq]
  split
  · next h => exact iff_of_true rfl h
  · next h => exact iff_of_false nofun h

/-- Where a register stands that exists. -/
theorem gprIndex_eq_some_iff (m : BitVec 5) (r : BitVec 4) (i : Fin 32) :
    gprIndex m r = some i ↔
      (r ≠ 15 ∧ (r.toNat < 8 ∨ m.toNat ∈ namedModes)) ∧ registerSlot m.toNat r.toNat = i.val := by
  rw [gprIndex_eq]
  split
  · next h =>
    exact iff_of_false nofun fun ⟨⟨h15, hex⟩, _⟩ =>
      h.elim h15 fun ⟨h8, hm⟩ => hex.elim (fun hlt => by omega) hm
  · next h =>
    have hex : r ≠ 15 ∧ (r.toNat < 8 ∨ m.toNat ∈ namedModes) := by grind
    have h15 : r.toNat ≠ 15 := fun e => hex.1 (BitVec.eq_of_toNat_eq e)
    have hlt := registerSlot_lt m.toNat (show r.toNat < 15 by omega)
    simp only [Option.some.injEq, Fin.ext_iff, Fin.ofNat, Nat.mod_eq_of_lt hlt, hex, ne_eq,
      not_false_eq_true, and_self, true_and]

/-- Two registers of a mode never stand in one place. -/
theorem gprIndex_injective {m : BitVec 5} {q r : BitVec 4} {i : Fin 32} (hq : gprIndex m q = some i)
    (hr : gprIndex m r = some i) : q = r := by
  obtain ⟨_, hq⟩ := (gprIndex_eq_some_iff m q i).mp hq
  obtain ⟨_, hr⟩ := (gprIndex_eq_some_iff m r i).mp hr
  exact BitVec.eq_of_toNat_eq (registerSlot_injective (hq.trans hr.symm))

/-- Which modes share a register. -/
theorem gprIndex_shared {m n : BitVec 5} {r : BitVec 4} {i : Fin 32} (h : gprIndex m r = some i) :
    gprIndex n r = some i ↔ r.toNat < 8 ∨ (n.toNat ∈ namedModes ∧
      (m.toNat = n.toNat ∨ (m.toNat ∈ [0x10, 0x1F] ∧ n.toNat ∈ [0x10, 0x1F]) ∨
        (r.toNat < 13 ∧ m.toNat ≠ 0x11 ∧ n.toNat ≠ 0x11))) := by
  obtain ⟨⟨h15, hm⟩, hi⟩ := (gprIndex_eq_some_iff m r i).mp h
  rw [gprIndex_eq_some_iff, ← hi]
  by_cases h8 : r.toNat < 8
  · simp only [h8, h15, registerSlot, if_true, ne_eq, not_false_eq_true, true_or, and_self]
  · have hm := hm.resolve_left h8
    by_cases hn : n.toNat ∈ namedModes
    · simp only [h15, h8, hn, ne_eq, not_false_eq_true, false_or, true_and]
      rw [eq_comm, registerSlot_eq_iff hm hn h8]
    · simp [h8, hn]

/-- A register read, from any mode, after the register in place `i` was written. -/
theorem CoreRegs.readGpr_set (c : CoreRegs) (i : Fin 32) (v p : Word) (q : BitVec 4) :
    { c with gpr := c.gpr.set i.val v i.isLt, cpsr := p }.readGpr q =
      if gprIndex (cpsrMode p) q = some i then some v else { c with cpsr := p }.readGpr q := by
  unfold CoreRegs.readGpr
  cases hq : gprIndex (cpsrMode p) q with
  | none => simp
  | some j =>
    simp only [Option.map_some, Option.some.injEq]
    by_cases hij : j = i
    · subst hij
      simp
    · have hne : i.val ≠ j.val := fun e => hij (Fin.ext e.symm)
      simp [hij, hne]

/-- Writing a register is writing its place. -/
theorem CoreRegs.writeGpr_eq_some {c c' : CoreRegs} {r : BitVec 4} {v : Word}
    (h : c.writeGpr r v = some c') :
    ∃ i, gprIndex (cpsrMode c.cpsr) r = some i ∧
      c' = { c with gpr := c.gpr.set i.val v i.isLt } := by
  obtain ⟨i, hi, rfl⟩ := Option.map_eq_some_iff.mp h
  exact ⟨i, hi, rfl⟩

/-- Settles O60: a write is a write of one place, and a read from any mode sees it exactly in that place. -/
theorem generalRegisters : Obligations.GeneralRegisters := by
  intro c r v
  refine ⟨?exists_, ?none_, fun c' h => ?same, fun c' p h => ?other⟩
  case exists_ => simp only [CoreRegs.writeGpr, CoreRegs.readGpr, Option.map_eq_none_iff]
  case none_ =>
    rw [CoreRegs.readGpr, Option.map_eq_none_iff]
    exact gprIndex_eq_none_iff _ r
  case same =>
    obtain ⟨i, hi, rfl⟩ := CoreRegs.writeGpr_eq_some h
    refine ⟨?_, fun q hq => ?_, rfl⟩
    · exact (c.readGpr_set i v c.cpsr r).trans (if_pos hi)
    · exact (c.readGpr_set i v c.cpsr q).trans (if_neg fun hqi => hq (gprIndex_injective hqi hi))
  case other =>
    obtain ⟨i, hi, rfl⟩ := CoreRegs.writeGpr_eq_some h
    exact (c.readGpr_set i v p r).trans (if_congr (gprIndex_shared hi) rfl rfl)

end Sys2Proof.Machine

end

/-! ## Status, PC and coprocessor moves issued in Debug state (42_debug_execution.md R198, R202, R206) -/

section

namespace Sys2Proof.Machine

/-! ### The words, one equation each -/

section Words

variable {w : Word} {abort : Bool} {s : State}

theorem State.armExec_mrsCpsr (h : decodeArm w = .mrsCpsr) :
    s.armExec w abort = (s.setRegs (s.core.regs.setR0 s.core.regs.cpsr), .done) := by
  simp only [State.armExec, h]

theorem State.armExec_mrsSpsr {k : Fin 6} (h : decodeArm w = .mrsSpsr)
    (hk : spsrIndex (cpsrMode s.core.regs.cpsr) = some k) :
    s.armExec w abort = (s.setRegs (s.core.regs.setR0 s.core.regs.spsr[k]), .done) := by
  simp only [State.armExec, h, hk]

theorem State.armExec_msrCpsr {fields v : Word} (h : decodeArm w = .msrCpsr fields)
    (hv : (s.core.regs.cpsr &&& ~~~fields) ||| (s.core.regs.r0 &&& fields) = v)
    (hmay : s.mayWriteCpsr v = true) :
    s.armExec w abort = (s.setRegs { s.core.regs with cpsr := v }, .done) := by
  subst hv
  simp only [State.armExec, h]
  exact State.writeCpsr_done hmay

theorem State.armExec_msrSpsr {k : Fin 6} (h : decodeArm w = .msrSpsr)
    (hk : spsrIndex (cpsrMode s.core.regs.cpsr) = some k) :
    s.armExec w abort =
      (s.setRegs { s.core.regs with spsr := s.core.regs.spsr.set k s.core.regs.r0 }, .done) := by
  simp only [State.armExec, h, hk]

theorem State.armExec_movFromPc {v : Word} (h : decodeArm w = .movFromPc) (hv : s.pcRead = v) :
    s.armExec w abort = (s.setRegs (s.core.regs.setR0 v), .done) := by
  simp only [State.armExec, h, hv]

theorem State.armExec_movToPc (h : decodeArm w = .movToPc) :
    s.armExec w abort = (s.setRegs { s.core.regs with pc := s.core.regs.r0 }, .done) := by
  simp only [State.armExec, h]

theorem State.armExec_dscrRead {rd : BitVec 4} {c : CoreRegs} (h : decodeArm w = .dscrRead rd)
    (hc : s.core.regs.writeGpr rd s.dscr = some c) : s.armExec w abort = (s.setRegs c, .done) := by
  simp only [State.armExec, h, hc]

theorem State.armExec_coprocRead (h : decodeArm w = .coprocRead) :
    s.armExec w abort = s.coprocToR0 w := by
  simp only [State.armExec, h]

theorem State.armExec_coprocWrite (h : decodeArm w = .coprocWrite) :
    s.armExec w abort = s.r0ToCoproc w := by
  simp only [State.armExec, h]

theorem State.pcRead_arm (h : s.core.entryIsa = .arm) : s.pcRead = s.core.regs.pc + 8 := by
  simp only [State.pcRead, h]

theorem State.pcRead_thumb (h : s.core.entryIsa = .thumb) : s.pcRead = s.core.regs.pc + 4 := by
  simp only [State.pcRead, h]

theorem State.pcRead_jazelle (h : s.core.entryIsa = .jazelle) : s.pcRead = s.core.regs.pc := by
  simp only [State.pcRead, h]

/-- A write of the CPSR's fields that hold the mode gives it the mode of the value written. -/
theorem cpsrMode_masked (b v : Word) {fields : Word} (hf : ∀ k < 5, fields.getLsbD k = true) :
    cpsrMode ((b &&& ~~~fields) ||| (v &&& fields)) = cpsrMode v := by
  apply BitVec.eq_of_getLsbD_eq
  intro k hk
  simp only [cpsrMode, BitVec.getLsbD_extractLsb', Nat.zero_add, getLsbD_masked, hf k hk, if_true]

/-- Rule R198 in the terms of the statement: who may write the CPSR, and which modes it may name. -/
theorem State.mayWriteCpsr_of {v : Word}
    (hfrom : s.core.regs.nonSecure = true ∨ s.pins.spiden = true ∨ cpsrMode s.core.regs.cpsr ≠ 0x10#5)
    (hto : cpsrMode v = cpsrMode s.core.regs.cpsr ∨
      s.permitsMode s.cfg.modePermitted (cpsrMode v) = true) : s.mayWriteCpsr v = true :=
  State.mayWriteCpsr_iff.mpr ⟨hfrom.imp_right (.imp_right decide_eq_false), hto⟩

/-- The word `MRC p14,0,Rd,c0,c1,0`, whatever Rd is. -/
theorem decodeArm_dscrRead (rd : BitVec 4) :
    decodeArm (0xEE10#16 ++ (rd ++ 0xE11#12)) = .dscrRead rd := by
  revert rd
  decide

/-- A data access leaves the PC alone if its effect does. -/
theorem State.access_pc {size : Word} {f : Word → State → State}
    (hf : ∀ a t, (f a t).core.regs.pc = t.core.regs.pc) :
    (s.access w abort size f).1.core.regs.pc = s.core.regs.pc := by
  simp only [State.access]
  split
  · split
    · rfl
    · exact hf _ _
  · rfl

/-- Writing a general register leaves the PC alone. -/
theorem CoreRegs.writeGpr_pc {c c' : CoreRegs} {r : BitVec 4} {v : Word}
    (h : c.writeGpr r v = some c') : c'.pc = c.pc := by
  obtain ⟨i, _, rfl⟩ := CoreRegs.writeGpr_eq_some h
  rfl

/-- Of the words the source names only `MOV PC,R0` writes the PC (10_state.md R52). -/
theorem State.armExec_pc (hother : decodeArm w ≠ .other) (hmov : decodeArm w ≠ .movToPc) :
    (s.armExec w abort).1.core.regs.pc = s.core.regs.pc := by
  unfold State.armExec
  split
  case h_1 rd _ =>
    split
    · rfl
    · split <;> rfl
  case h_2 rd _ =>
    split
    · rfl
    · split
      · next c hc => exact CoreRegs.writeGpr_pc hc
      · rfl
  case h_3 rd _ =>
    split
    · next c hc => exact CoreRegs.writeGpr_pc hc
    · rfl
  case h_4 | h_5 | h_12 | h_13 | h_14 | h_15 => exact State.access_pc fun _ _ => rfl
  case h_6 | h_10 | h_16 => rfl
  case h_7 | h_9 => split <;> rfl
  case h_8 fields _ =>
    rcases s.writeCpsr_cases w fields abort with ⟨_, e⟩ | ⟨_, e⟩ <;> rw [e] <;> rfl
  case h_11 h => exact absurd h hmov
  case h_17 =>
    rcases s.coprocToR0_cases w with ⟨_, e⟩ | ⟨_, _, _, e⟩
    · rw [e]
    · rw [e]; rfl
  case h_18 =>
    rcases s.r0ToCoproc_cases w with ⟨_, e⟩ | ⟨_, _, e⟩
    · rw [e]
    · rw [e]; rfl
  case h_19 h => exact absurd h hother

end Words

/-! ### Completion -/

section Completion

variable {w : Word} {abort : Bool} {rest : List Input} {s u : State}

/-- The flag of an exception leaves the core alone. -/
theorem State.recordOutcome_core (o : CoreOutcome) (s : State) :
    (State.recordOutcome o s).core = s.core := by
  rcases s.recordOutcome_cases o with e | ⟨e, _⟩ | ⟨e, _⟩ <;> rw [e] <;> rfl

/-- A completion step: the effects of the word, the end of the instruction, the flag of its outcome. -/
theorem step_completing (h : s.completing w abort rest) :
    step s = .next (State.recordOutcome ((s.afterInput rest).armExec w abort).2
      ((s.afterInput rest).armExec w abort).1.endInstruction) := by
  rw [step_agent h.1 (fun _ _ => nofun) nofun,
    ← State.completeInstruction_inFlight abort (by exact h.2)]
  rfl

/-- The completion of a word that ends without an exception. -/
theorem step_completing_done (h : s.completing w abort rest)
    (he : (s.afterInput rest).armExec w abort = (u, .done)) : step s = .next u.endInstruction := by
  rw [step_completing h, he]
  rfl

/-- The completion, in Debug state, of a word that is Undefined: DSCR[8] is set. -/
theorem step_completing_undefined (h : s.completing w abort rest)
    (he : (s.afterInput rest).armExec w abort = (u, .undefined)) (hdebug : u.core.debugState = true) :
    step s = .next { u.endInstruction with dbg.dscrBits := u.dbg.dscrBits ||| 0x100 } := by
  have hflag : State.recordOutcome .undefined u.endInstruction = u.endInstruction.setDscrBit 8 true :=
    if_pos hdebug
  rw [step_completing h, he, hflag, State.setDscrBit, setBit_true _ (by decide)]
  rfl

end Completion

/-- Settles O49: each word by its equation, and the PC by `State.armExec_pc`. -/
theorem statusAndPcMoves : Obligations.StatusAndPcMoves := by
  intro s abort rest
  refine ⟨fun h => ?mrsCpsr, fun k h hk => ?mrsSpsr,
    fun hfrom hto => ⟨fun h => ?msrAll, fun h => ?msrFields⟩, fun k h hk => ?msrSpsr,
    fun h hi => ?pcArm, fun h hi => ?pcThumb, fun h hi => ?pcJazelle, fun h => ?movToPc,
    fun rd c h hc => ?dscrRead, fun w h hw hdebug => ?coprocRead, fun w h hw hdebug => ?coprocWrite,
    fun w h hother hmov => ?pc⟩
  case mrsCpsr => exact step_completing_done h (State.armExec_mrsCpsr (by decide))
  case mrsSpsr => exact step_completing_done h (State.armExec_mrsSpsr (by decide) hk)
  case msrAll =>
    have hmay : (s.afterInput rest).mayWriteCpsr s.core.regs.r0 = true :=
      State.mayWriteCpsr_of hfrom hto
    have hall : (s.core.regs.cpsr &&& ~~~0xFFFFFFFF) ||| (s.core.regs.r0 &&& 0xFFFFFFFF) =
        s.core.regs.r0 := by
      rw [show (0xFFFFFFFF : Word) = BitVec.allOnes 32 by decide, BitVec.not_allOnes, BitVec.and_zero,
        BitVec.and_allOnes, BitVec.zero_or]
    exact step_completing_done h (State.armExec_msrCpsr (fields := 0xFFFFFFFF) (by decide) hall hmay)
  case msrFields =>
    have hmode := cpsrMode_masked s.core.regs.cpsr s.core.regs.r0 (fields := 0xFF0000FF) (by decide)
    have hmay : (s.afterInput rest).mayWriteCpsr
        ((s.core.regs.cpsr &&& ~~~0xFF0000FF) ||| (s.core.regs.r0 &&& 0xFF0000FF)) = true :=
      State.mayWriteCpsr_of hfrom (by rw [hmode]; exact hto)
    exact step_completing_done h (State.armExec_msrCpsr (by decide) rfl hmay)
  case msrSpsr => exact step_completing_done h (State.armExec_msrSpsr (by decide) hk)
  case pcArm =>
    exact step_completing_done h (State.armExec_movFromPc (by decide) (State.pcRead_arm hi))
  case pcThumb =>
    exact step_completing_done h (State.armExec_movFromPc (by decide) (State.pcRead_thumb hi))
  case pcJazelle =>
    exact step_completing_done h (State.armExec_movFromPc (by decide) (State.pcRead_jazelle hi))
  case movToPc => exact step_completing_done h (State.armExec_movToPc (by decide))
  case dscrRead => exact step_completing_done h (State.armExec_dscrRead (decodeArm_dscrRead rd) hc)
  case coprocRead =>
    have he := State.armExec_coprocRead (abort := abort) (s := s.afterInput rest) hw
    rcases (s.afterInput rest).coprocToR0_cases w with ⟨hn, e⟩ | ⟨v, c, hn, e⟩
    · rw [step_completing_undefined h (he.trans e) hdebug,
        show Config.coprocRead w s.coprocView = _ from hn]
      rfl
    · rw [step_completing_done h (he.trans e), show Config.coprocRead w s.coprocView = _ from hn]
      rfl
  case coprocWrite =>
    have he := State.armExec_coprocWrite (abort := abort) (s := s.afterInput rest) hw
    rcases (s.afterInput rest).r0ToCoproc_cases w with ⟨hn, e⟩ | ⟨c, hn, e⟩
    · rw [step_completing_undefined h (he.trans e) hdebug,
        show Config.coprocWrite w s.coprocView s.core.regs.r0 = _ from hn]
      rfl
    · rw [step_completing_done h (he.trans e),
        show Config.coprocWrite w s.coprocView s.core.regs.r0 = _ from hn]
      rfl
  case pc =>
    refine ⟨_, step_completing h, ?_⟩
    rw [State.recordOutcome_core]
    exact State.armExec_pc hother hmov

end Sys2Proof.Machine

end

/-! ## The words of the table and their rows (30_encoding.md R102, R114, R115) -/

section

namespace Sys2Proof

/-! ### From a word to its row and back -/

/-- No two codes of Table 14-1 share a row. -/
theorem encode_decodeIr (c : BitVec 5) : encode (decodeIr c) = .ir5 c := by
  revert c; decide

theorem decodeIr_wellFormed (c : BitVec 5) : (decodeIr c).wellFormed = true := by
  revert c; decide

/-- The low bits that a row of several scan chains keeps are the ones the row does not fix. -/
theorem encode_decodeScreg (n : BitVec 5) : encode (decodeScreg n) = .screg5 n := by
  revert n; decide

theorem decodeScreg_wellFormed (n : BitVec 5) : (decodeScreg n).wellFormed = true := by
  revert n; decide

theorem addressIn_iff {lo hi : Nat} {a : BitVec 7} :
    addressIn lo hi a = true ↔ lo ≤ a.toNat ∧ a.toNat ≤ hi := by
  simp [addressIn]

/-- A row of one address puts that address back; a row of a range keeps the address it was given. -/
theorem encode_decodeAddress (a : BitVec 7) (d : Word) (w : Bool) :
    encode (decodeAddress a d w) = .sc7req (requestFrame a d w) := by
  have numeral : ∀ {n : Nat}, a.toNat = n → BitVec.ofNat 7 n = a := by rintro _ rfl; simp
  unfold decodeAddress
  split
  case h_20 =>
    repeat' split
    all_goals rfl
  all_goals
    next h => rw [← numeral h]; rfl

/-- Each row of a range is reached only by its addresses: the ranges before it and the rows of one address are
tried first. -/
theorem decodeAddress_wellFormed (a : BitVec 7) (d : Word) (w : Bool) :
    (decodeAddress a d w).wellFormed = true := by
  unfold decodeAddress
  split
  case h_20 =>
    simp only [imp_false] at *
    repeat' split
    all_goals simp only [Instr.wellFormed, addressIn_iff]; omega
  all_goals rfl

/-- Settles O2: one round trip for each kind of word; a request is the frame of its three fields. -/
theorem encodeDecode : Obligations.EncodeDecode := by
  intro f
  cases f with
  | ir5 c => exact ⟨encode_decodeIr c, decodeIr_wellFormed c⟩
  | screg5 n => exact ⟨encode_decodeScreg n, decodeScreg_wellFormed n⟩
  | sc7req r =>
    refine ⟨?_, decodeAddress_wellFormed _ _ _⟩
    calc encode (decodeRequest r)
        = .sc7req (requestFrame (requestAddress r) (requestData r) (requestWrite r)) :=
          encode_decodeAddress _ _ _
      _ = .sc7req r := by rw [requestFrame_fields]

/-! ### From a row to its word and back -/

theorem decodeScreg_chain2To3 (low : BitVec 1) : decodeScreg (0b0001#4 ++ low) = .chain2To3 low := by
  revert low; decide

theorem decodeScreg_chain8To15 (low : BitVec 3) : decodeScreg (0b01#2 ++ low) = .chain8To15 low := by
  revert low; decide

theorem decodeScreg_chain16To31 (low : BitVec 4) : decodeScreg (0b1#1 ++ low) = .chain16To31 low := by
  revert low; decide

/-- An address in a range is one of the range's numerals. -/
theorem address_cases_of_addressIn {lo hi : Nat} {a : BitVec 7} (h : addressIn lo hi a = true) :
    ∃ n, lo ≤ n ∧ n ≤ hi ∧ a = BitVec.ofNat 7 n :=
  ⟨a.toNat, (addressIn_iff.1 h).1, (addressIn_iff.1 h).2, by simp⟩

/-- Settles O1, by the kinds of row: a row of several scan chains holds the low bits of the number; a request's
row holds data and direction and has one address or, if well-formed, keeps one of its range; the other rows
hold no operand. -/
theorem decodeEncode : Obligations.DecodeEncode := by
  intro i hi
  cases i with
  | chain2To3 low => exact decodeScreg_chain2To3 low
  | chain8To15 low => exact decodeScreg_chain8To15 low
  | chain16To31 low => exact decodeScreg_chain16To31 low
  | reserved1To6 a d w | norow9To18 a d w | reserved19To63 a d w | reserved70To79 a d w
  | reserved86To95 a d w | reserved98To111 a d w | reserved114To127 a d w =>
    rw [encode, decode_requestFrame]
    obtain ⟨n, hlo, hhi, rfl⟩ := address_cases_of_addressIn hi
    interval_cases n <;> rfl
  | null d w | vcr d w | pc d w | bvr0 d w | bvr1 d w | bvr2 d w | bvr3 d w | bvr4 d w | bvr5 d w
  | bcr0 d w | bcr1 d w | bcr2 d w | bcr3 d w | bcr4 d w | bcr5 d w | wvr0 d w | wvr1 d w
  | wcr0 d w | wcr1 d w => exact decode_requestFrame _ d w
  | _ => rfl

/-- Settles O3: the words are literals, which the decoder reads by computation. -/
theorem decodeSpecWords : Obligations.DecodeSpecWords :=
  ⟨rfl, rfl, rfl, rfl, rfl, rfl, rfl, rfl, rfl, rfl, rfl, rfl, rfl, rfl, rfl⟩

end Sys2Proof

end

/-! ## A scan of scan chain 1 (30_encoding.md R109, R116, 10_state.md R22) -/

section

namespace Sys2Proof.Machine

/-- Steps that follow a sequence of states are a run along it. -/
theorem run_of_steps {f : Nat → State} {n : Nat} (h : ∀ k < n, step (f k) = .next (f (k + 1))) :
    ∀ k ≤ n, Host.Core.run Sys2Proof.core k (f 0) = .next (f k) := by
  have from_any : ∀ k j, j + k ≤ n → Host.Core.run Sys2Proof.core k (f j) = .next (f (j + k)) := by
    intro k
    induction k with
    | zero => intro j _; rfl
    | succ k ih =>
      intro j hj
      rw [run_step (h j (by omega)), ih (j + 1) (by omega), Nat.add_right_comm, Nat.add_assoc]
  intro k hk
  simpa using from_any k 0 (by omega)

/-- A Shift-DR cycle of scan chain 1, under EXTEST or INTEST. -/
theorem step_shift_chain1 {s : State} {tms tdi : Bool} {rest : List Input}
    (hs : s.atShift tms tdi rest) (hir : s.ctl.ir = 0b00000 ∨ s.ctl.ir = 0b01100)
    (hscreg : s.ctl.screg = 1) :
    step s = .next { s.afterShift tms rest (s.ctl.s1.getLsbD 0) with
      ctl.s1 := shiftIn tdi s.ctl.s1 } := by
  have hleg : ∃ insn, legOf s.ctl.ir s.ctl.screg = chain1Leg insn := by
    rw [hscreg]
    rcases hir with e | e <;> rw [e] <;> exact ⟨_, rfl⟩
  obtain ⟨insn, hleg⟩ := hleg
  rw [step_tck_leg hs.1.2, hleg]
  exact tckCycle_shift (leg := chain1Leg insn) hs rfl hs.2

/-! ### The contents of the chain along the scan -/

/-- What stands in the chain after `k` cycles: the 32 bits from bit `k` on of the word presented above the one
that stood there. -/
def scanWindow (old v : Word) (k : Nat) : Word := (v ++ old).extractLsb' k 32

theorem scanWindow_getLsbD {k i : Nat} (old v : Word) (hi : i < 32) :
    (scanWindow old v k).getLsbD i =
      if k + i < 32 then old.getLsbD (k + i) else v.getLsbD (k + i - 32) := by
  simp only [scanWindow, BitVec.getLsbD_extractLsb', BitVec.getLsbD_append, hi, decide_true,
    Bool.true_and]

theorem scanWindow_zero (old v : Word) : scanWindow old v 0 = old := by
  apply BitVec.eq_of_getLsbD_eq
  intro i hi
  rw [scanWindow_getLsbD _ _ hi, Nat.zero_add, if_pos hi]

theorem scanWindow_full (old v : Word) : scanWindow old v 32 = v := by
  apply BitVec.eq_of_getLsbD_eq
  intro i hi
  rw [scanWindow_getLsbD _ _ hi, if_neg (by omega), Nat.add_sub_cancel_left]

/-- The bit shown by the cycle numbered `k` is one of the old word. -/
theorem scanWindow_out {k : Nat} (old v : Word) (hk : k < 32) :
    (scanWindow old v k).getLsbD 0 = old.getLsbD k := by
  rw [scanWindow_getLsbD _ _ (by decide), Nat.add_zero, if_pos hk]

/-- A cycle that presents bit `k` moves the window by one. -/
theorem shiftIn_scanWindow {k : Nat} (old v : Word) :
    shiftIn (v.getLsbD k) (scanWindow old v k) = scanWindow old v (k + 1) := by
  rw [shiftIn_append (m := 31)]
  apply BitVec.eq_of_getLsbD_eq
  intro i hi
  rw [scanWindow_getLsbD _ _ hi, BitVec.getLsbD_append]
  by_cases hlow : i < 31
  · rw [if_pos hlow, BitVec.getLsbD_extractLsb', scanWindow_getLsbD _ _ (by omega), ← Nat.add_assoc]
    simp [hlow]
  · obtain rfl : i = 31 := by omega
    rw [if_neg hlow, if_neg (by omega)]
    simp

/-! ### The scan -/

/-- The inputs that present the bits of `v`, bit 0 first, the last with tms = 1. -/
def scanInputs (v : Word) : List Input :=
  (List.range 32).map fun k => Input.tck (decide (k = 31)) (v.getLsbD k)

theorem scanInputs_drop {k : Nat} (v : Word) (hk : k < 32) :
    (scanInputs v).drop k = .tck (decide (k = 31)) (v.getLsbD k) :: (scanInputs v).drop (k + 1) := by
  rw [List.drop_eq_getElem_cons (by simpa [scanInputs] using hk)]
  simp [scanInputs]

/-- The state after `k` cycles of a scan of scan chain 1 that presents `v`. -/
def State.scanned (s : State) (v : Word) (rest : List Input) : Nat → State
  | 0 => s
  | k + 1 =>
    { s.afterShift (decide (k = 31)) ((scanInputs v).drop (k + 1) ++ rest) (s.ctl.s1.getLsbD k) with
      ctl.s1 := scanWindow s.ctl.s1 v (k + 1) }

section Scan

variable {s : State} {v : Word} {rest : List Input} {k : Nat}

theorem State.scanned_s1 : (s.scanned v rest k).ctl.s1 = scanWindow s.ctl.s1 v k := by
  cases k with
  | zero => exact (scanWindow_zero _ _).symm
  | succ k => rfl

/-- Before the last cycle the scan has not left Shift-DR. -/
theorem State.scanned_atShift (htrst : s.pins.trst = false) (htap : s.ctl.tap = .shiftDr)
    (hin : s.env.inputs = scanInputs v ++ rest) (hk : k < 32) :
    (s.scanned v rest k).atShift (decide (k = 31)) (v.getLsbD k)
      ((scanInputs v).drop (k + 1) ++ rest) := by
  have hnext := congrArg (· ++ rest) (scanInputs_drop v hk)
  cases k with
  | zero => exact ⟨⟨htrst, hin.trans hnext⟩, htap⟩
  | succ k =>
    refine ⟨⟨htrst, hnext⟩, ?_⟩
    show s.ctl.tap.next (decide (k = 31)) = .shiftDr
    rw [htap, decide_eq_false (by omega)]
    rfl

/-- One cycle of the scan. -/
theorem step_scanned (htrst : s.pins.trst = false) (htap : s.ctl.tap = .shiftDr)
    (hir : s.ctl.ir = 0b00000 ∨ s.ctl.ir = 0b01100) (hscreg : s.ctl.screg = 1)
    (hin : s.env.inputs = scanInputs v ++ rest) (hk : k < 32) :
    step (s.scanned v rest k) = .next (s.scanned v rest (k + 1)) := by
  have hs := State.scanned_atShift htrst htap hin hk
  rw [step_shift_chain1 hs (by cases k <;> exact hir) (by cases k <;> exact hscreg),
    State.scanned_s1, scanWindow_out _ _ hk, shiftIn_scanWindow]
  have htap' : (s.scanned v rest k).ctl.tap = s.ctl.tap := hs.2.trans htap.symm
  cases k with
  | zero => rfl
  | succ k => simp only [State.afterShift, State.afterCycle, htap']; rfl

/-- After its last cycle the scan stands in Exit1-DR, with the word presented in the chain. -/
theorem State.scanned_full (htap : s.ctl.tap = .shiftDr) :
    s.scanned v rest 32 = { s with
      env.inputs := rest, ctl.tap := .exit1Dr, ctl.s1 := v, ctl.tdo := some (s.ctl.s1.getLsbD 31) } := by
  have hdone : (scanInputs v).drop 32 ++ rest = rest := rfl
  rw [State.scanned, hdone, scanWindow_full, State.afterShift, State.afterCycle, htap]
  rfl

end Scan

/-- Settles O28: the states of the scan, cycle by cycle, by the window they leave in the chain. -/
theorem scanDelivers : Obligations.ScanDelivers := by
  intro s v rest htrst htap hir hscreg hin
  have hrun := run_of_steps (f := s.scanned v rest) (n := 32)
    fun k hk => step_scanned htrst htap hir hscreg hin hk
  refine ⟨?_, fun k hk => ⟨_, hrun (k + 1) hk, rfl⟩⟩
  rw [← State.scanned_full (v := v) (rest := rest) htap]
  exact hrun 32 le_rfl

end Sys2Proof.Machine

end

/-! ## The public instructions (40_tap_instructions.md R130 to R140) -/

section

namespace Sys2Proof.Machine

variable {s : State} {tms tdi : Bool} {rest : List Input}

/-- Settles O5: a TCK cycle runs the leg of the code in the IR, and that leg is the code's row. -/
theorem cycleIsCurrentInstruction : Obligations.CycleIsCurrentInstruction := by
  intro s tms tdi rest hi
  rw [step_tck_leg hi, exec_decodeIr]

/-! ### The bypass register -/

/-- A cycle in Capture-DR with the bypass register connected, whatever entry to Run-Test/Idle does. -/
theorem tckCycle_capture_bypass {idle : State → Result State} (h : s.atCapture tms tdi rest) :
    tckCycle { bypassLeg with idle := idle } s =
      .next { s.afterCapture tms rest with ctl.byp := false } :=
  tckCycle_capture (leg := { bypassLeg with idle := idle }) h rfl h.2

/-- A cycle in Shift-DR with the bypass register connected, whatever entry to Run-Test/Idle does. -/
theorem tckCycle_shift_bypass {idle : State → Result State} (h : s.atShift tms tdi rest) :
    tckCycle { bypassLeg with idle := idle } s =
      .next { s.afterShift tms rest s.ctl.byp with ctl.byp := tdi } :=
  tckCycle_shift (leg := { bypassLeg with idle := idle }) h rfl h.2

/-- Settles O11: the 25 rows run one leg, that of the bypass register. -/
theorem bypassAndReservedCodes : Obligations.BypassAndReservedCodes := by
  intro i hi s tms tdi rest
  have hleg : exec i s = tckCycle bypassLeg s := by fin_cases hi <;> rfl
  rw [hleg]
  exact ⟨tckCycle_capture_bypass, tckCycle_shift_bypass, tckCycle_update, tckCycle_idle⟩

/-! ### The device ID register and SCREG -/

/-- Settles O12: the cycles of the device ID register's leg, with the shift read off `shiftIn_append`. -/
theorem idcode : Obligations.Idcode := by
  intro s tms tdi rest
  rw [exec_idcode, execIdcode, ← shiftIn_append (m := 31)]
  exact ⟨fun h => tckCycle_capture (leg := idcodeLeg) h rfl h.2,
    fun h => tckCycle_shift (leg := idcodeLeg) h rfl h.2, tckCycle_update, tckCycle_idle⟩

/-- Settles O13: the cycles of SCREG's leg, with the shift read off `shiftIn_append`. -/
theorem scanN : Obligations.ScanN := by
  intro s tms tdi rest
  rw [exec_scanN, execScanN, ← shiftIn_append (m := 4)]
  exact ⟨fun h => tckCycle_capture (leg := scanNLeg) h rfl h.2,
    fun h => tckCycle_shift (leg := scanNLeg) h rfl h.2, tckCycle_update, tckCycle_idle⟩

/-! ### Halt and Restart -/

theorem State.haltAction_requests (hd : s.core.debugState = false) (hp : s.pins.dbgen = true) :
    s.haltAction = .next { s with core.haltReq := true } := by
  simp [State.haltAction, hd, hp]

theorem State.haltAction_ignored (h : s.core.debugState = true ∨ s.pins.dbgen = false) :
    s.haltAction = .next s := by
  rcases h with h | h <;> simp [State.haltAction, h]

theorem State.restartAction_requests (hd : s.core.debugState = true) :
    s.restartAction = .next { s with core.restartReq := true, dbg.coreRestarted := false } :=
  if_pos hd

theorem State.restartAction_refused (hd : s.core.debugState = false) :
    s.restartAction = .refused .u13RestartOutsideDebug :=
  if_neg (by simp [hd])

/-- Settles O14: the bypass register's leg, with the Halt action at entry to Run-Test/Idle. -/
theorem halt : Obligations.Halt := by
  intro s tms tdi rest
  rw [exec_halt, execHalt]
  refine ⟨fun h hd hp => ?requests, fun h hi => ?ignored, tckCycle_capture_bypass,
    tckCycle_shift_bypass, tckCycle_update⟩
  case requests => exact (tckCycle_idle h).trans (State.haltAction_requests hd hp)
  case ignored => exact (tckCycle_idle h).trans (State.haltAction_ignored hi)

/-- Settles O15: the bypass register's leg, with the Restart action at entry to Run-Test/Idle. -/
theorem restart : Obligations.Restart := by
  intro s tms tdi rest
  rw [exec_restart, execRestart]
  refine ⟨fun h hd => ?requests, fun h hd => ?refused, tckCycle_capture_bypass,
    tckCycle_shift_bypass, tckCycle_update⟩
  case requests => exact (tckCycle_idle h).trans (State.restartAction_requests hd)
  case refused => exact (tckCycle_idle h).trans (State.restartAction_refused hd)

end Sys2Proof.Machine

end

/-! ## Capture-DR and Update-DR of the scan chains (41_scan_chains.md R150 to R185) -/

section

namespace Sys2Proof.Machine

variable {s t : State} {i : Instr} {insn : ScanInsn} {c : BitVec 5} {tms tdi : Bool}
  {rest : List Input}

/-! ### The cycles of a connected chain -/

/-- A Capture-DR cycle of a connected chain: `Ready` is loaded, the chain's leg captures, and the state
machine moves. -/
theorem exec_capture (hc : s.connects i insn c) (h : s.atCapture tms tdi rest)
    (hcapture : (chainLeg insn c).capture { s with
      env.inputs := rest, ctl.tdo := none, ctl.ready := s.dbg.instCompl } = .next t)
    (htap : t.ctl.tap = s.ctl.tap) :
    exec i s = .next { t with ctl.tap := s.ctl.tap.next tms } := by
  rw [exec_connects hc]
  exact tckCycle_capture h hcapture (htap.trans h.2)

/-- The cycle that enters Update-DR of a connected chain. -/
theorem exec_update (hc : s.connects i insn c) (h : s.entersUpdate tdi rest) :
    exec i s = (chainLeg insn c).update (s.afterCycle true rest) := by
  rw [exec_connects hc, tckCycle_update h]

/-! ### Scan chain 0 -/

/-- Settles O16: the capture of the chain's leg. -/
theorem chain0Capture : Obligations.Chain0Capture := fun _ _ _ _ _ _ hc h =>
  exec_capture hc h rfl rfl

/-! ### Scan chain 1 -/

/-- Settles O17: the capture of the chain's leg; the cleared bits are 8, 7 and 6. -/
theorem chain1Capture : Obligations.Chain1Capture := fun _ _ _ _ _ h =>
  ⟨fun hc => exec_capture hc h rfl rfl, fun hc => exec_capture hc h rfl rfl⟩

/-- The write mask holds bits 13 and 14 and none of 0, 1, 6, 7, 8, 29 and 30. -/
theorem tapWriteMask_constrained (p : Params) : tapWriteMask p &&& 0x600061C3 = 0x00006000 := by
  have hfixed : ~~~(0x600001C3 : Word) &&& 0x600061C3 = 0x00006000 := by decide
  rw [tapWriteMask, BitVec.and_assoc, hfixed]
  ext k hk
  rw [BitVec.getElem_and, BitVec.getElem_or]
  exact inf_eq_right.mpr le_sup_right

theorem State.update1_refusedU1 (h13 : s.ctl.s1.getLsbD 13 = true) (he : s.execEnabled = false)
    (hd : s.core.debugState = false) :
    s.update1 .extest = .refused .u1ExecEnableSetOutsideDebug :=
  if_pos (by rw [h13, he, hd]; rfl)

theorem State.update1_refusedU4 (h13 : s.ctl.s1.getLsbD 13 = false) (he : s.execEnabled = true)
    (hi : s.dbg.instCompl = false) :
    s.update1 .extest = .refused .u4ExecEnableClearedInFlight := by
  simp only [State.update1, h13, he, hi, Bool.not_true, Bool.not_false, Bool.false_and,
    Bool.true_and, Bool.false_eq_true, if_false, if_true]

/-- An update of scan chain 1 that neither sets DSCR[13] outside Debug state nor clears it under an instruction
in flight writes the bits of the mask. -/
theorem State.update1_writes
    (hset : s.ctl.s1.getLsbD 13 = true → s.execEnabled = true ∨ s.core.debugState = true)
    (hclear : s.ctl.s1.getLsbD 13 = false → s.execEnabled = false ∨ s.dbg.instCompl = true) :
    s.update1 .extest = .next { s with dbg.dscrBits :=
      (s.dbg.dscrBits &&& ~~~tapWriteMask s.cfg) ||| (s.ctl.s1 &&& tapWriteMask s.cfg) } := by
  have h1 : (s.ctl.s1.getLsbD 13 && !s.execEnabled && !s.core.debugState) = false := by
    cases h13 : s.ctl.s1.getLsbD 13
    · rfl
    · rcases hset h13 with h | h <;> simp [h]
  have h4 : (!s.ctl.s1.getLsbD 13 && s.execEnabled && !s.dbg.instCompl) = false := by
    cases h13 : s.ctl.s1.getLsbD 13
    · rcases hclear h13 with h | h <;> simp [h]
    · rfl
  simp only [State.update1, h1, h4, Bool.false_eq_true, if_false]

/-- Settles O18: the mask, and the three outcomes of the chain's update. -/
theorem chain1Update : Obligations.Chain1Update := by
  refine ⟨tapWriteMask_constrained, fun s i tdi rest hc h => ?_⟩
  rw [exec_update hc h]
  exact ⟨State.update1_refusedU1 (s := s.afterCycle true rest),
    State.update1_refusedU4 (s := s.afterCycle true rest),
    State.update1_writes (s := s.afterCycle true rest)⟩

/-! ### Scan chain 4 -/

theorem State.update4_loads (h : s.ctl.ready = true) :
    s.update4 .extest = { s with dbg.itr := s.ctl.s4.extractLsb' 0 32 } := if_pos h

theorem State.update4_skipped (h : s.ctl.ready = false) : s.update4 .extest = s :=
  if_neg (by simp [h])

/-- Settles O19: the capture and the update of the chain's leg. -/
theorem chain4 : Obligations.Chain4 := by
  intro s i tms tdi rest
  refine ⟨fun insn hc h => exec_capture hc h rfl rfl, fun hc h hready => ?loads,
    fun hc h hready => ?skipped⟩
  case loads =>
    exact (exec_update hc h).trans <|
      congrArg Host.Outcome.next (State.update4_loads (s := s.afterCycle true rest) hready)
  case skipped =>
    exact (exec_update hc h).trans <|
      congrArg Host.Outcome.next (State.update4_skipped (s := s.afterCycle true rest) hready)

/-! ### Scan chain 5 -/

/-- Settles O20: the capture of the chain's leg under each instruction. -/
theorem chain5Capture : Obligations.Chain5Capture := fun _ _ _ _ _ h =>
  ⟨fun hc => exec_capture hc h rfl rfl, fun hc => exec_capture hc h rfl rfl⟩

/-- The latch that guards an update of scan chain 5. -/
def State.dtrGuard (s : State) : Bool := if s.execEnabled then s.ctl.ready else s.ctl.nRetry

theorem State.update5_loads (h : s.dtrGuard = true) :
    s.update5 .extest =
      { s with dbg.rdtr := s.ctl.s5.extractLsb' 0 32, dbg.rdtrEmpty := false } := if_pos h

theorem State.update5_skipped (h : s.dtrGuard = false) : s.update5 .extest = s :=
  if_neg (Bool.eq_false_iff.mp h)

/-- An EXTEST update of scan chain 5, by its guard. -/
theorem exec_update_chain5 (hc : s.connects i .extest 5) (h : s.entersUpdate tdi rest) :
    (s.dtrGuard = true → exec i s = .next { s.afterCycle true rest with
      dbg.rdtr := s.ctl.s5.extractLsb' 0 32, dbg.rdtrEmpty := false }) ∧
    (s.dtrGuard = false → exec i s = .next (s.afterCycle true rest)) := by
  rw [exec_update hc h]
  exact ⟨fun hg => congrArg Host.Outcome.next (State.update5_loads (s := s.afterCycle true rest) hg),
    fun hg => congrArg Host.Outcome.next (State.update5_skipped (s := s.afterCycle true rest) hg)⟩

/-- Settles O21: with DSCR[13] = 1 the guard is `Ready`. -/
theorem chain5UpdateInDebugUse : Obligations.Chain5UpdateInDebugUse := by
  intro s i tdi rest hc h he
  have hguard : s.dtrGuard = s.ctl.ready := if_pos he
  rw [← hguard]
  exact exec_update_chain5 hc h

/-- Settles O22: with DSCR[13] = 0 the guard is `nRetry`. -/
theorem chain5UpdateInDccUse : Obligations.Chain5UpdateInDccUse := by
  intro s i tdi rest hc h he
  have hguard : s.dtrGuard = s.ctl.nRetry := if_neg (Bool.eq_false_iff.mp he)
  rw [← hguard]
  exact exec_update_chain5 hc h

/-! ### Updates that write nothing -/

/-- Settles O23: the update of each of the five legs is empty. -/
theorem updatesThatWriteNothing : Obligations.UpdatesThatWriteNothing := by
  intro s i tdi rest h hc
  rcases hc with hc | hc | hc | hc | hc <;> exact exec_update hc h

/-! ### Scan chain 6 -/

/-- Settles O24: the capture and the update of the chain's leg under each instruction. -/
theorem chain6 : Obligations.Chain6 := fun _ _ _ _ _ =>
  ⟨fun hc h => exec_capture hc h rfl rfl, exec_update, fun hc h => exec_capture hc h rfl rfl,
    exec_update⟩

/-! ### Scan chain 7 -/

theorem State.capture7_delivers {v : Word} (hreq : s.dbg.req = none) (hv : s.dbg.rdData = some v) :
    s.capture7 = State.usedDraws 1 { s with
      ctl.s7 := ((s.drawAt 0).setWidth 7 ++ v) ++ 1#1
      ctl.reqReady := true, dbg.rdData := none } := by
  simp only [State.capture7, State.reqCompl, hreq, hv, Option.isNone_none, if_true]
  rfl

theorem State.capture7_open (hreq : s.dbg.req = none) (hv : s.dbg.rdData = none) :
    s.capture7 = State.usedDraws 2 { s with
      ctl.s7 := ((s.drawAt 0).setWidth 7 ++ (s.drawAt 1).setWidth 32) ++ 1#1
      ctl.reqReady := true } := by
  simp only [State.capture7, State.reqCompl, hreq, hv, Option.isNone_none, if_true]
  rfl

theorem State.capture7_pending {r : Request} (hreq : s.dbg.req = some r) :
    s.capture7 = { s with
      ctl.s7 := s.ctl.s7.extractLsb' 1 39 ++ 0#1, ctl.reqReady := false } := by
  simp only [State.capture7, State.reqCompl, hreq, Option.isNone_some, Bool.false_eq_true, if_false]
  rfl

/-- Settles O25: the capture of the chain's leg, by the pending request and the read result. -/
theorem chain7Capture : Obligations.Chain7Capture := by
  intro s i insn tms tdi rest hc h
  refine ⟨fun v hreq hv => ?delivers, fun hreq hv => ?opens, fun r hreq => ?pending⟩
  case delivers => exact exec_capture hc h (congrArg Host.Outcome.next (State.capture7_delivers hreq hv)) rfl
  case opens => exact exec_capture hc h (congrArg Host.Outcome.next (State.capture7_open hreq hv)) rfl
  case pending => exact exec_capture hc h (congrArg Host.Outcome.next (State.capture7_pending hreq)) rfl

theorem State.shift7_frozen (h : s.ctl.reqReady = false) : s.shift7 tdi = s :=
  if_neg (Bool.eq_false_iff.mp h)

theorem State.shift7_shifts (h : s.ctl.reqReady = true) :
    s.shift7 tdi = { s with ctl.s7 := shiftIn tdi s.ctl.s7 } := if_pos h

theorem State.out7_frozen (h : s.ctl.reqReady = false) : s.out7 = false :=
  if_neg (Bool.eq_false_iff.mp h)

theorem State.out7_shows (h : s.ctl.reqReady = true) : s.out7 = s.ctl.s7.getLsbD 0 := if_pos h

/-- Settles O26: what the chain shows and its shift, by the captured Ready/nRW. -/
theorem chain7Shift : Obligations.Chain7Shift := by
  intro s i insn tms tdi rest hc h
  refine ⟨fun hready => ?frozen, fun hready => ?shifts⟩
  case frozen =>
    have hout : (chainLeg insn 7).out { s with env.inputs := rest } = false :=
      State.out7_frozen hready
    rw [exec_shift hc h (congrArg Host.Outcome.next (State.shift7_frozen hready)) rfl, hout]
    rfl
  case shifts =>
    have hout : (chainLeg insn 7).out { s with env.inputs := rest } = s.ctl.s7.getLsbD 0 :=
      State.out7_shows hready
    rw [exec_shift hc h (congrArg Host.Outcome.next (State.shift7_shifts hready)) rfl, hout,
      ← shiftIn_append (m := 39)]
    rfl

/-! ### The undescribed chains -/

theorem chainLeg_undescribed (hc : c = 2 ∨ c = 3) :
    chainLeg insn c = undescribedLeg .u10UndescribedChain := by
  rcases hc with rfl | rfl <;> rfl

theorem chainLeg_high (hc : 8 ≤ c.toNat) :
    chainLeg insn c =
      undescribedLeg (if c.toNat < 16 then .u11ReservedChain else .u12UnassignedChain) := by
  unfold chainLeg
  split
  case h_9 => split <;> rfl
  all_goals omega

/-- A connected chain that nothing describes: a Capture-DR is refused, and entry to Run-Test/Idle does nothing. -/
theorem exec_undescribed {r : Refusal} (hc : s.connects i insn c)
    (hleg : chainLeg insn c = undescribedLeg r) :
    (s.atCapture tms tdi rest → exec i s = .refused r) ∧
    (s.entersIdle tdi rest → exec i s = .next (s.afterCycle false rest)) := by
  rw [exec_connects hc, hleg]
  exact ⟨fun h => tckCycle_capture_refused h rfl, fun h => tckCycle_idle h⟩

/-- Settles O29: the chains by number, and what a leg that nothing describes does. -/
theorem undescribedChains : Obligations.UndescribedChains := by
  intro s i insn c tms tdi rest hc
  refine ⟨fun h hn => ?undescribed, fun h hlow hhigh => ?reserved, fun h hlow => ?unassigned,
    fun h hn => ?idle⟩
  case undescribed => exact (exec_undescribed hc (chainLeg_undescribed hn)).1 h
  case reserved =>
    have hleg := chainLeg_high (insn := insn) hlow
    rw [if_pos (by omega)] at hleg
    exact (exec_undescribed hc hleg).1 h
  case unassigned =>
    have hleg := chainLeg_high (insn := insn) (by omega : 8 ≤ c.toNat)
    rw [if_neg (by omega)] at hleg
    exact (exec_undescribed hc hleg).1 h
  case idle =>
    obtain ⟨r, hleg⟩ : ∃ r, chainLeg insn c = undescribedLeg r := by
      rcases or_assoc.mpr hn with hn | hn
      · exact ⟨_, chainLeg_undescribed hn⟩
      · exact ⟨_, chainLeg_high hn⟩
    exact (exec_undescribed (tms := tms) hc hleg).2 h

end Sys2Proof.Machine

end

/-! ## Scan chain 7 requests (41_scan_chains.md R173 to R182) -/

section

namespace Sys2Proof.Machine

/-! ### The registers behind scan chain 7 -/

/-- A register behind scan chain 7, as the rows of Table 14-2 have it. -/
structure RequestRegister where
  /-- its address -/
  address : BitVec 7
  /-- its row -/
  row : Word → Bool → Instr
  /-- what a read delivers -/
  read : State → Word
  /-- what a write does -/
  write : Word → DebugUnit → DebugUnit

/-- The eighteen registers of Table 14-2, in the order of their addresses. -/
def requestRegisters : List RequestRegister :=
  [⟨7, .vcr, fun s => s.dbg.vcr, fun d u => { u with vcr := d }⟩,
    ⟨8, .pc, State.pcSample, fun _ u => u⟩,
    ⟨64, .bvr0, fun s => s.dbg.bvr[0], fun d u => { u with bvr := u.bvr.set 0 d }⟩,
    ⟨65, .bvr1, fun s => s.dbg.bvr[1], fun d u => { u with bvr := u.bvr.set 1 d }⟩,
    ⟨66, .bvr2, fun s => s.dbg.bvr[2], fun d u => { u with bvr := u.bvr.set 2 d }⟩,
    ⟨67, .bvr3, fun s => s.dbg.bvr[3], fun d u => { u with bvr := u.bvr.set 3 d }⟩,
    ⟨68, .bvr4, fun s => s.dbg.bvr[4], fun d u => { u with bvr := u.bvr.set 4 d }⟩,
    ⟨69, .bvr5, fun s => s.dbg.bvr[5], fun d u => { u with bvr := u.bvr.set 5 d }⟩,
    ⟨80, .bcr0, fun s => s.dbg.bcr[0], fun d u => { u with bcr := u.bcr.set 0 d }⟩,
    ⟨81, .bcr1, fun s => s.dbg.bcr[1], fun d u => { u with bcr := u.bcr.set 1 d }⟩,
    ⟨82, .bcr2, fun s => s.dbg.bcr[2], fun d u => { u with bcr := u.bcr.set 2 d }⟩,
    ⟨83, .bcr3, fun s => s.dbg.bcr[3], fun d u => { u with bcr := u.bcr.set 3 d }⟩,
    ⟨84, .bcr4, fun s => s.dbg.bcr[4], fun d u => { u with bcr := u.bcr.set 4 d }⟩,
    ⟨85, .bcr5, fun s => s.dbg.bcr[5], fun d u => { u with bcr := u.bcr.set 5 d }⟩,
    ⟨96, .wvr0, fun s => s.dbg.wvr[0], fun d u => { u with wvr := u.wvr.set 0 d }⟩,
    ⟨97, .wvr1, fun s => s.dbg.wvr[1], fun d u => { u with wvr := u.wvr.set 1 d }⟩,
    ⟨112, .wcr0, fun s => s.dbg.wcr[0], fun d u => { u with wcr := u.wcr.set 0 d }⟩,
    ⟨113, .wcr1, fun s => s.dbg.wcr[1], fun d u => { u with wcr := u.wcr.set 1 d }⟩]

/-- What the model makes of a register of the table: its address decodes to its row and is neither NULL nor
reserved, the row reads and writes the register, a read does not depend on the inputs to come, and a write does not touch
the request and the read result. -/
structure RequestRegister.Models (r : RequestRegister) : Prop where
  decodes : ∀ d w, decodeAddress r.address d w = r.row d w
  runs : ∀ d w s, exec (r.row d w) s =
    registerRow r.address d w r.read (fun v t => { t with dbg := r.write v t.dbg }) s
  readInput : ∀ s rest, r.read (s.afterInput rest) = r.read s
  writeRequest : ∀ d u q v, r.write d { u with req := q, rdData := v } =
    { r.write d u with req := q, rdData := v }
  notNull : r.address ≠ 0
  notReserved : reservedAddress r.address = false

theorem requestRegisters_models : ∀ r ∈ requestRegisters, r.Models := by
  intro r hr
  fin_cases hr <;>
    exact ⟨fun _ _ => rfl, fun _ _ _ => rfl, fun _ _ => rfl, fun _ _ _ _ => rfl, by decide, by decide⟩

namespace RequestRegister.Models

variable {r : RequestRegister} {s : State} {d : Word} {w : Bool} {tdi : Bool} {rest : List Input}

/-- A request engine step with a request of the register pending runs the register's row. -/
theorem step_pending (hr : r.Models) (hi : s.env.inputs = .engine :: rest)
    (hp : s.dbg.req = some ⟨r.address, d, w⟩) : step s = exec (r.row d w) s := by
  rw [step_engine hi hp, hr.decodes]

theorem exec_read (hr : r.Models) (hi : s.env.inputs = .engine :: rest) :
    exec (r.row d false) s = .next { s.afterInput rest with
      dbg.rdData := some (r.read s), dbg.req := none } := by
  rw [hr.runs, registerRow_engine hi, if_neg Bool.false_ne_true, hr.readInput]
  rfl

theorem exec_write (hr : r.Models) (hi : s.env.inputs = .engine :: rest) :
    exec (r.row d true) s = .next { s.afterInput rest with
      dbg := { r.write d s.dbg with rdData := none, req := none } } := by
  rw [hr.runs, registerRow_engine hi, if_pos rfl]
  rfl

theorem exec_update (hr : r.Models) (h : s.entersUpdate tdi rest) :
    exec (r.row d w) s = (s.afterCycle true rest).placeRequest r.address d w := by
  rw [hr.runs, registerRow_update h]

end RequestRegister.Models

/-- Settles O36: the list names the registers of the table with what a read of each delivers. -/
theorem readRequestCompletes : Obligations.ReadRequestCompletes := by
  refine List.forall_mem_map (l := requestRegisters)
    (f := fun r => (r.address, r.row, r.read)).mpr ?_
  intro r hr s d rest hi hp
  have hm := requestRegisters_models r hr
  exact ⟨hm.step_pending hi hp, hm.exec_read hi⟩

/-- Settles O37: the list names the registers of the table with what a write of each does. -/
theorem writeRequestCompletes : Obligations.WriteRequestCompletes := by
  refine List.forall_mem_map (l := requestRegisters)
    (f := fun r => (r.address, r.row, r.write)).mpr ?_
  intro r hr s d rest hi hp
  have hm := requestRegisters_models r hr
  exact ⟨hm.step_pending hi hp, hm.exec_write hi⟩

/-- Settles O33: the list names the registers of the table. -/
theorem registerRequestsPlaced : Obligations.RegisterRequestsPlaced := by
  refine List.forall_mem_map (l := requestRegisters)
    (f := fun r => (r.address, r.row)).mpr ?_
  intro r hr s d w tdi rest h
  have hm := requestRegisters_models r hr
  exact ⟨fun hready => (hm.exec_update h).trans
      (placeRequest_taken hready hm.notNull hm.notReserved),
    fun hfrozen => (hm.exec_update h).trans (placeRequest_frozen hfrozen)⟩

/-- A register of the table stands at the address, and a write of it does `put`. -/
def TakesWrites (a : BitVec 7) (put : Word → DebugUnit → DebugUnit) : Prop :=
  ∃ r ∈ requestRegisters, r.address = a ∧ r.write = put

theorem takesWrites_at {k : Nat} (hk : k < 18) :
    TakesWrites (requestRegisters[k]'hk).address (requestRegisters[k]'hk).write :=
  ⟨_, List.getElem_mem hk, rfl, rfl⟩

theorem takesWrites_vcr : TakesWrites 7 fun d u => { u with vcr := d } :=
  takesWrites_at (k := 0) (by decide)

theorem takesWrites_bvr (y : Fin 6) :
    TakesWrites (BitVec.ofNat 7 (64 + y)) fun d u => { u with bvr := u.bvr.set y d } := by
  have h := takesWrites_at (k := 2 + y) (by omega)
  fin_cases y <;> exact h

theorem takesWrites_bcr (y : Fin 6) :
    TakesWrites (BitVec.ofNat 7 (80 + y)) fun d u => { u with bcr := u.bcr.set y d } := by
  have h := takesWrites_at (k := 8 + y) (by omega)
  fin_cases y <;> exact h

theorem takesWrites_wvr (y : Fin 2) :
    TakesWrites (BitVec.ofNat 7 (96 + y)) fun d u => { u with wvr := u.wvr.set y d } := by
  have h := takesWrites_at (k := 14 + y) (by omega)
  fin_cases y <;> exact h

theorem takesWrites_wcr (y : Fin 2) :
    TakesWrites (BitVec.ofNat 7 (112 + y)) fun d u => { u with wcr := u.wcr.set y d } := by
  have h := takesWrites_at (k := 16 + y) (by omega)
  fin_cases y <;> exact h

/-! ### Requests standing in the chain at Update-DR -/

/-- The leg of the instruction in the IR is that of the chain it connects. -/
theorem legOf_of_connects {s : State} {i : Instr} {insn : ScanInsn} {c : BitVec 5}
    (h : s.connects i insn c) : legOf s.ctl.ir s.ctl.screg = chainLeg insn c := by
  rcases h with ⟨hi, rfl, rfl, _⟩ | ⟨hi, rfl, rfl, _⟩ | ⟨hi, rfl, rfl, _⟩ <;> rw [hi] <;> rfl

/-- On a TCK cycle a step runs what connects the chain. -/
theorem step_of_connects {s : State} {i : Instr} {insn : ScanInsn} {c : BitVec 5} {tms tdi : Bool}
    {rest : List Input} (hc : s.connects i insn c) (hi : s.env.inputs = .tck tms tdi :: rest) :
    step s = exec i s := by
  rw [step_tck_leg hi, legOf_of_connects hc, exec_connects hc]

section Update

variable {s : State} {i : Instr} {insn : ScanInsn} {a : BitVec 7} {d : Word} {w tdi : Bool}
  {rest : List Input}

/-- The cycle that enters Update-DR places the request standing in scan chain 7. -/
theorem exec_update_chain7 (hc : s.connects i insn 7) (h : s.entersUpdate tdi rest)
    (hs7 : s.ctl.s7 = requestFrame a d w) :
    exec i s = (s.afterCycle true rest).placeRequest a d w := by
  have hu : exec i s = (s.afterCycle true rest).update7 := by
    rw [exec_connects hc]
    exact tckCycle_update h
  have hframe : (s.afterCycle true rest).ctl.s7 = requestFrame a d w := hs7
  rw [hu, State.update7, hframe, requestAddress_frame, requestData_frame, requestWrite_frame]

/-- A write of a register that stands in scan chain 7 is placed at Update-DR and done by the engine's next step. -/
theorem run_write_chain7 {put : Word → DebugUnit → DebugUnit} (hr : TakesWrites a put)
    (hc : s.connects i insn 7) (h : s.entersUpdate tdi (.engine :: rest))
    (hready : s.ctl.reqReady = true) (hs7 : s.ctl.s7 = requestFrame a d true) :
    Host.Core.run Sys2Proof.core 2 s = .next { s.afterCycle true rest with
      dbg := { put d s.dbg with rdData := none, req := none } } := by
  obtain ⟨r, hmem, rfl, rfl⟩ := hr
  have hm := requestRegisters_models r hmem
  have hplaced : step s = .next { s.afterCycle true (.engine :: rest) with
      dbg.req := some ⟨r.address, d, true⟩, dbg.rdData := none } := by
    rw [step_of_connects hc h.1.2, exec_update_chain7 hc h hs7]
    exact placeRequest_taken hready hm.notNull hm.notReserved
  rw [run_step hplaced, run_step ((hm.step_pending rfl rfl).trans (hm.exec_write rfl)),
    hm.writeRequest]
  rfl

end Update

/-- Settles O39: each of the five kinds of register is in the table, and a write of a register of the table is
done in two steps. -/
theorem writeRequestReachesRegister : Obligations.WriteRequestReachesRegister := by
  intro s insn d tdi rest h hready hconn
  obtain ⟨i, hc⟩ : ∃ i, s.connects i insn 7 := by
    rcases hconn with hc | hc <;> exact ⟨_, hc⟩
  refine ⟨fun hs7 => ?vcr, fun y hs7 => ?bvr, fun y hs7 => ?bcr, fun y hs7 => ?wvr,
    fun y hs7 => ?wcr⟩
  case vcr => exact run_write_chain7 takesWrites_vcr hc h hready hs7
  case bvr => exact run_write_chain7 (takesWrites_bvr y) hc h hready hs7
  case bcr => exact run_write_chain7 (takesWrites_bcr y) hc h hready hs7
  case wvr => exact run_write_chain7 (takesWrites_wvr y) hc h hready hs7
  case wcr => exact run_write_chain7 (takesWrites_wcr y) hc h hready hs7

/-- Beside NULL, the addresses that are not reserved are those of the eighteen registers. -/
theorem reservedAddress_iff (a : BitVec 7) (h : a ≠ 0) :
    reservedAddress a = true ↔
      a.toNat ∉ [7, 8, 64, 65, 66, 67, 68, 69, 80, 81, 82, 83, 84, 85, 96, 97, 112, 113] := by
  revert a
  decide

/-- Settles O32: the chain's update places the request that stands in it, by the kind of its address. -/
theorem chain7Update : Obligations.Chain7Update := by
  intro s i insn a d w tdi rest hc h hs7
  rw [exec_update_chain7 hc h hs7]
  refine ⟨placeRequest_frozen (s := s.afterCycle true rest), fun _ ha => ?null,
    fun hready ha => ?register, fun hready h0 ha => ?reserved⟩
  case null => rw [ha, placeRequest_null]
  case register =>
    have h0 : a ≠ 0 := by rintro rfl; exact absurd ha (by decide)
    have hr : reservedAddress a = false := by
      rw [← Bool.not_eq_true, reservedAddress_iff a h0, not_not]
      exact ha
    exact placeRequest_taken hready h0 hr
  case reserved =>
    rw [placeRequest_reserved h0 ((reservedAddress_iff a h0).mpr ha)]
    exact if_pos hready

/-! ### The rows of NULL and of the reserved addresses -/

/-- Settles O34: the row places nothing. -/
theorem nullRequest : Obligations.NullRequest := by
  intro s d w tdi rest h
  rw [exec_null, execNull, requestRow_update h]

/-- Settles O35: the seven rows are one, that of a reserved address. -/
theorem reservedRequests : Obligations.ReservedRequests := by
  intro k hk s a d w tdi rest h
  have hrow : exec (k a d w) s = reservedRow s := by fin_cases hk <;> rfl
  rw [hrow, reservedRow_update h]
  exact ⟨fun hready => if_pos hready, fun hfrozen => if_neg (by simp [hfrozen])⟩

/-! ### The value of a PC sample -/

/-- The high bits of a word kept, and its low bits replaced. -/
theorem clear_low_or {m k : Nat} (v : BitVec (m + k)) (b : BitVec k) :
    (v &&& (BitVec.allOnes m ++ 0#k)) ||| (0#m ++ b) = v.extractLsb' k m ++ b := by
  have hsplit : v.extractLsb' k m ++ v.extractLsb' 0 k = v := by
    rw [BitVec.extractLsb'_append_extractLsb'_eq_extractLsb' (Nat.zero_add k).symm,
      BitVec.extractLsb'_eq_self]
  calc (v &&& (BitVec.allOnes m ++ 0#k)) ||| (0#m ++ b)
      = ((v.extractLsb' k m ++ v.extractLsb' 0 k) &&& (BitVec.allOnes m ++ 0#k)) ||| (0#m ++ b) := by
        rw [hsplit]
    _ = v.extractLsb' k m ++ b := by
        rw [BitVec.and_append, BitVec.or_append, BitVec.and_allOnes, BitVec.and_zero, BitVec.or_zero,
          BitVec.zero_or]

theorem pcSampleOf_arm (a : Word) : pcSampleOf .arm a = (a + 8).extractLsb' 2 30 ++ 0b00#2 := by
  rw [← clear_low_or (m := 30)]
  exact BitVec.or_zero.symm

theorem pcSampleOf_thumb (a : Word) : pcSampleOf .thumb a = (a + 4).extractLsb' 1 31 ++ 1#1 := by
  rw [pcSampleOf, BitVec.shiftLeft_ushiftRight]
  exact clear_low_or (m := 31) (a + 4) 1#1

theorem pcSampleOf_jazelle (a : Word) : pcSampleOf .jazelle a = a.extractLsb' 2 30 ++ 0b10#2 :=
  clear_low_or (m := 30) a 0b10#2

/-- A sample that is not hidden is that of the committed instruction. -/
theorem State.pcSample_shown {s : State} (hd : s.core.debugState = false)
    (hp : s.nonInvasivePermitted = true) :
    s.pcSample = pcSampleOf s.core.regs.committedIsa s.core.regs.committed :=
  if_neg (by simp [hd, hp])

theorem State.pcSample_hidden {s : State}
    (h : s.core.debugState = true ∨ s.nonInvasivePermitted = false) : s.pcSample = 0xFFFFFFFF :=
  if_pos (by simpa using h)

/-- Settles O38: the sample by Debug state and permission, then by the committed instruction's state. -/
theorem pcSample : Obligations.PcSample := by
  intro s
  refine ⟨State.pcSample_hidden, fun hd hp => ?shown⟩
  rw [State.pcSample_shown hd hp]
  refine ⟨fun hi => ?arm, fun hi => ?thumb, fun hi => ?jazelle⟩ <;> rw [hi]
  case arm => exact pcSampleOf_arm _
  case thumb => exact pcSampleOf_thumb _
  case jazelle => exact pcSampleOf_jazelle _

end Sys2Proof.Machine

end

/-! ## Loads and stores of the core (20_memory.md R77, 42_debug_execution.md R206) -/

section

namespace Sys2Proof.Machine

variable {m : Memory} {a : Word} {e : Bool}

/-- An aligned access of `2 ^ k` bytes does not pass the top of memory. -/
theorem toNat_add_le_of_aligned {k : Nat} (hk : k ≤ 32)
    (h : a &&& BitVec.ofNat 32 (2 ^ k - 1) = 0) : a.toNat + 2 ^ k ≤ 2 ^ 32 := by
  have hpow : 2 ^ k ≤ 2 ^ 32 := Nat.pow_le_pow_right (by decide) hk
  have hmod : a.toNat % 2 ^ k = 0 := by
    have hn := congrArg BitVec.toNat h
    rwa [BitVec.toNat_and, BitVec.toNat_ofNat,
      Nat.mod_eq_of_lt ((Nat.sub_lt (Nat.two_pow_pos k) Nat.one_pos).trans_le hpow),
      Nat.and_two_pow_sub_one_eq_mod] at hn
  obtain ⟨q, hq⟩ := Nat.dvd_of_mod_eq_zero hmod
  obtain ⟨r, hr⟩ := Nat.pow_dvd_pow 2 hk
  have hqr : q < r := Nat.lt_of_mul_lt_mul_left (a := 2 ^ k) (by rw [← hq, ← hr]; exact a.isLt)
  calc a.toNat + 2 ^ k = 2 ^ k * (q + 1) := by rw [hq, Nat.mul_succ]
    _ ≤ 2 ^ k * r := Nat.mul_le_mul_left _ hqr
    _ = 2 ^ 32 := hr.symm

/-- A load, at an offset, of a byte the model holds. -/
theorem Memory.loadByte_offset {k : Nat} {v : Byte} (hk : a.toNat + k < 2 ^ 32)
    (h : Memory.read m (a.toNat + k) = some v) : m.loadByte (a + BitVec.ofNat 32 k) = v := by
  have hoff : (BitVec.ofNat 32 k).toNat = k :=
    (BitVec.toNat_ofNat k 32).trans (Nat.mod_eq_of_lt (by omega))
  apply Memory.loadByte_of_read
  rw [BitVec.toNat_add_of_lt (by omega), hoff, h]

/-- A word is loaded from its four bytes, in either byte order. -/
theorem Memory.loadWord_of_read {v : Word} (ha : a.toNat + 4 ≤ 2 ^ 32)
    (h : ∀ k : Fin 4, Memory.read m (a.toNat + k) =
      some (v.extractLsb' (if e then 24 - 8 * k else 8 * k) 8)) : m.loadWord e a = v := by
  have hbyte (k : Fin 4) := Memory.loadByte_offset (by omega) (h k)
  have h0 : m.loadByte a = _ := (congrArg m.loadByte (BitVec.add_zero a).symm).trans (hbyte 0)
  have h1 : m.loadByte (a + 1) = _ := hbyte 1
  have h2 : m.loadByte (a + 2) = _ := hbyte 2
  have h3 : m.loadByte (a + 3) = _ := hbyte 3
  have hv : v.extractLsb' 24 8 ++
      (v.extractLsb' 16 8 ++ (v.extractLsb' 8 8 ++ v.extractLsb' 0 8)) = v := by
    rw [BitVec.extractLsb'_append_extractLsb'_eq_extractLsb' (start₂ := 8) rfl,
      BitVec.extractLsb'_append_extractLsb'_eq_extractLsb' (start₂ := 16) rfl,
      BitVec.extractLsb'_append_extractLsb'_eq_extractLsb' (start₂ := 24) rfl,
      BitVec.extractLsb'_eq_self]
  rw [Memory.loadWord, h0, h1, h2, h3]
  cases e <;> exact hv

/-- A halfword is loaded from its two bytes, in either byte order. -/
theorem Memory.loadHalf_of_read {n : Nat} {v : BitVec n} (ha : a.toNat + 2 ≤ 2 ^ 32)
    (h : ∀ k : Fin 2, Memory.read m (a.toNat + k) =
      some (v.extractLsb' (if e then 8 - 8 * k else 8 * k) 8)) :
    m.loadHalf e a = v.extractLsb' 0 16 := by
  have hbyte (k : Fin 2) := Memory.loadByte_offset (by omega) (h k)
  have h0 : m.loadByte a = _ := (congrArg m.loadByte (BitVec.add_zero a).symm).trans (hbyte 0)
  have h1 : m.loadByte (a + 1) = _ := hbyte 1
  have hv : v.extractLsb' 8 8 ++ v.extractLsb' 0 8 = v.extractLsb' 0 16 :=
    BitVec.extractLsb'_append_extractLsb'_eq_extractLsb' rfl
  rw [Memory.loadHalf, h0, h1]
  cases e <;> exact hv

/-- The bits of a word that a store of `n + 1` bytes puts at an offset. -/
theorem laneByte_eq (n : Nat) (v : Word) (k : Nat) :
    laneByte e (n + 1) v k = v.extractLsb' (if e then 8 * n - 8 * k else 8 * k) 8 := by
  cases e
  · rfl
  · exact congrArg (v.extractLsb' · 8) (Nat.mul_sub 8 n k)

/-- A word stored: its four bytes, the word loaded back, and every other byte. -/
theorem Memory.store_word (m : Memory) (e : Bool) (v : Word) (ha : a.toNat + 4 ≤ 2 ^ 32) :
    (∀ k : Fin 4, Memory.read (m.writeAll (storeBytes e 4 a v)) (a.toNat + k) =
      some (v.extractLsb' (if e then 24 - 8 * k else 8 * k) 8)) ∧
    (m.writeAll (storeBytes e 4 a v)).loadWord e a = v ∧
    (∀ b, b < a.toNat ∨ a.toNat + 4 ≤ b →
      Memory.read (m.writeAll (storeBytes e 4 a v)) b = Memory.read m b) := by
  obtain ⟨hbytes, hframe⟩ := Memory.read_storeBytes m e v ha
  have hread (k : Fin 4) := (hbytes k k.isLt).trans (congrArg some (laneByte_eq 3 v k))
  exact ⟨hread, Memory.loadWord_of_read ha hread, hframe⟩

/-- A halfword stored: its two bytes, the halfword loaded back, and every other byte. -/
theorem Memory.store_half (m : Memory) (e : Bool) (v : Word) (ha : a.toNat + 2 ≤ 2 ^ 32) :
    (∀ k : Fin 2, Memory.read (m.writeAll (storeBytes e 2 a v)) (a.toNat + k) =
      some (v.extractLsb' (if e then 8 - 8 * k else 8 * k) 8)) ∧
    (m.writeAll (storeBytes e 2 a v)).loadHalf e a = v.extractLsb' 0 16 ∧
    (∀ b, b < a.toNat ∨ a.toNat + 2 ≤ b →
      Memory.read (m.writeAll (storeBytes e 2 a v)) b = Memory.read m b) := by
  obtain ⟨hbytes, hframe⟩ := Memory.read_storeBytes m e v ha
  have hread (k : Fin 2) := (hbytes k k.isLt).trans (congrArg some (laneByte_eq 1 v k))
  exact ⟨hread, Memory.loadHalf_of_read ha hread, hframe⟩

/-- A byte stored: the byte, the byte loaded back, and every other byte. -/
theorem Memory.store_byte (m : Memory) (e : Bool) (a v : Word) :
    Memory.read (m.writeAll (storeBytes e 1 a v)) a.toNat = some (v.extractLsb' 0 8) ∧
    (m.writeAll (storeBytes e 1 a v)).loadByte a = v.extractLsb' 0 8 ∧
    (∀ b, b ≠ a.toNat → Memory.read (m.writeAll (storeBytes e 1 a v)) b = Memory.read m b) := by
  obtain ⟨hbytes, hframe⟩ := Memory.read_storeBytes m e v (n := 1) a.isLt
  have hread : Memory.read (m.writeAll (storeBytes e 1 a v)) a.toNat = some (v.extractLsb' 0 8) := by
    refine (hbytes 0 Nat.one_pos).trans (congrArg some ?_)
    rw [laneByte_eq, Nat.mul_zero, Nat.zero_sub, ite_self]
  exact ⟨hread, Memory.loadByte_of_read hread, fun b hb => hframe b (by omega)⟩

end Sys2Proof.Machine

end

/-! ## Issue of instructions (42_debug_execution.md R190 to R197, R210) -/

section

namespace Sys2Proof.Machine

variable {s : State} {i : Instr} {insn : ScanInsn} {c : BitVec 5} {tdi : Bool} {rest : List Input}

/-- The cycle of a connected chain that enters Run-Test/Idle. -/
theorem exec_idle (hc : s.connects i insn c) (h : s.entersIdle tdi rest) :
    exec i s = (chainLeg insn c).idle (s.afterCycle false rest) := by
  rw [exec_connects hc, tckCycle_idle h]

/-- Entry to Run-Test/Idle with scan chain 4 or 5 connected may issue the ITR. -/
theorem exec_idle_issuing (hc : s.connects i insn 4 ∨ s.connects i insn 5)
    (h : s.entersIdle tdi rest) : exec i s = (s.afterCycle false rest).tryIssue := by
  rcases hc with hc | hc <;> exact exec_idle hc h

/-- With every condition of rule R190 met and an instruction in flight the issue is refused. -/
theorem State.tryIssue_stale (hdebug : s.core.debugState = true) (hexec : s.execEnabled = true)
    (hready : s.ctl.ready = true) (hsticky : s.stickyPreciseAbort = false)
    (hcompl : s.dbg.instCompl = false) : s.tryIssue = .refused .u14StaleReady := by
  unfold State.tryIssue
  rw [if_neg (by simp [hdebug]), if_neg (by simp [hexec]), if_neg (by simp [hready]),
    if_neg (by simp [hsticky]), if_pos (by simp [hcompl])]

/-- Settles O30: the idle action of the chain's leg issues. -/
theorem issue : Obligations.Issue := by
  intro s i insn tdi rest hc h hdebug hexec hready hsticky hcompl
  rw [exec_idle_issuing hc h]
  exact State.tryIssue_issues (s := s.afterCycle false rest) hdebug hexec hready hsticky hcompl

/-- Settles O31: the idle action of chains 4 and 5 skips or refuses, that of the other chains is empty. -/
theorem noIssue : Obligations.NoIssue := by
  intro s i insn tdi rest h
  refine ⟨fun hc hfails => ?skips, fun hc hdebug hexec hready hsticky hcompl => ?stale,
    fun hc => ?otherChains⟩
  case skips =>
    rw [exec_idle_issuing hc h]
    exact State.tryIssue_skips (s := s.afterCycle false rest) hfails
  case stale =>
    rw [exec_idle_issuing hc h]
    exact State.tryIssue_stale (s := s.afterCycle false rest) hdebug hexec hready hsticky hcompl
  case otherChains => rcases hc with hc | hc | hc | hc <;> exact exec_idle hc h

end Sys2Proof.Machine

end

/-! ## DTR and memory transfers, and open words (42_debug_execution.md R192, R199, R200, R206) -/

section

namespace Sys2Proof.Machine

/-! ### The words, one equation each -/

section Words

variable {w : Word} {abort : Bool} {s : State}

/-- The word `MCR p14,0,Rd,c0,c5,0`, whatever Rd is. -/
theorem decodeArm_dtrWrite (rd : BitVec 4) :
    decodeArm (0xEE00#16 ++ (rd ++ 0xE15#12)) = .dtrWrite rd := by
  revert rd
  decide

/-- The word `MRC p14,0,Rd,c0,c5,0`, whatever Rd is. -/
theorem decodeArm_dtrRead (rd : BitVec 4) :
    decodeArm (0xEE10#16 ++ (rd ++ 0xE15#12)) = .dtrRead rd := by
  revert rd
  decide

theorem State.armExec_dtrWrite {rd : BitVec 4} {v : Word} (h : decodeArm w = .dtrWrite rd)
    (hrd : rd ≠ 15) (hv : s.core.regs.readGpr rd = some v) :
    s.armExec w abort = (s.writeWdtr v, .done) := by
  simp only [State.armExec, h, if_neg hrd, hv]

theorem State.armExec_dtrWrite_pc (h : decodeArm w = .dtrWrite 15) :
    s.armExec w abort = (s, .undefined) := by
  simp only [State.armExec, h, if_true]

theorem State.armExec_dtrRead {rd : BitVec 4} {c : CoreRegs} (h : decodeArm w = .dtrRead rd)
    (hrd : rd ≠ 15) (hc : s.core.regs.writeGpr rd s.dbg.rdtr = some c) :
    s.armExec w abort = (State.readRdtr (s.setRegs c), .done) := by
  simp only [State.armExec, h, if_neg hrd, hc]

theorem State.armExec_dtrRead_pc (h : decodeArm w = .dtrRead 15) :
    s.armExec w abort = (s.rdtrToFlags, .done) := by
  simp only [State.armExec, h, if_true]

theorem State.armExec_ldc (hr0 : s.core.regs.r0 &&& 3 = 0) :
    s.armExec 0xECB05E01 false = ({ s with
      dbg.wdtr := s.core.mem.loadWord s.core.regs.bigEndian s.core.regs.r0
      dbg.wdtrFull := true, core.drained := false
      core.regs := s.core.regs.setR0 (s.core.regs.r0 + 4) }, .done) := by
  have hop : decodeArm 0xECB05E01 = .ldcDtr := by decide
  simp only [State.armExec, hop]
  exact State.access_done hr0

theorem State.armExec_stc (hr0 : s.core.regs.r0 &&& 3 = 0) :
    s.armExec 0xECA05E01 false = ({ s with
      core.mem := s.core.mem.writeAll
        (storeBytes s.core.regs.bigEndian 4 s.core.regs.r0 s.dbg.rdtr)
      dbg.rdtrEmpty := true, core.drained := false
      core.regs := s.core.regs.setR0 (s.core.regs.r0 + 4) }, .done) := by
  have hop : decodeArm 0xECA05E01 = .stcDtr := by decide
  simp only [State.armExec, hop]
  exact State.access_done hr0

/-- An aborted access of the DTRs by LDC or STC. -/
theorem State.armExec_dtrAccess_abort (hw : decodeArm w = .ldcDtr ∨ decodeArm w = .stcDtr)
    (hr0 : s.core.regs.r0 &&& 3 = 0) :
    s.armExec w true = ({ s with core.drained := false }, .preciseAbort) := by
  rcases hw with hw | hw <;> simp only [State.armExec, hw] <;> exact State.access_abort hr0

theorem State.armExec_ldrh (hr0 : s.core.regs.r0 &&& 1 = 0) :
    s.armExec 0xE0D010B2 false = ({ s with
      core.drained := false
      core.regs := (s.core.regs.setR1
        (0#16 ++ s.core.mem.loadHalf s.core.regs.bigEndian s.core.regs.r0)).setR0
        (s.core.regs.r0 + 2) }, .done) := by
  have hop : decodeArm 0xE0D010B2 = .ldrh := by decide
  simp only [State.armExec, hop, BitVec.setWidth_eq_append (show 16 ≤ 32 by decide)]
  exact State.access_done hr0

theorem State.armExec_ldrb :
    s.armExec 0xE4D01001 false = ({ s with
      core.drained := false
      core.regs := (s.core.regs.setR1 (0#24 ++ s.core.mem.loadByte s.core.regs.r0)).setR0
        (s.core.regs.r0 + 1) }, .done) := by
  have hop : decodeArm 0xE4D01001 = .ldrb := by decide
  simp only [State.armExec, hop, BitVec.setWidth_eq_append (show 8 ≤ 32 by decide)]
  exact State.access_done BitVec.and_zero

theorem State.armExec_strh (hr0 : s.core.regs.r0 &&& 1 = 0) :
    s.armExec 0xE0C010B2 false = ({ s with
      core.mem := s.core.mem.writeAll
        (storeBytes s.core.regs.bigEndian 2 s.core.regs.r0 s.core.regs.r1)
      core.drained := false
      core.regs := s.core.regs.setR0 (s.core.regs.r0 + 2) }, .done) := by
  have hop : decodeArm 0xE0C010B2 = .strh := by decide
  simp only [State.armExec, hop]
  exact State.access_done hr0

theorem State.armExec_strb :
    s.armExec 0xE4C01001 false = ({ s with
      core.mem := s.core.mem.writeAll
        (storeBytes s.core.regs.bigEndian 1 s.core.regs.r0 s.core.regs.r1)
      core.drained := false
      core.regs := s.core.regs.setR0 (s.core.regs.r0 + 1) }, .done) := by
  have hop : decodeArm 0xE4C01001 = .strb := by decide
  simp only [State.armExec, hop]
  exact State.access_done BitVec.and_zero

/-- A word to which the source gives no effect is the parameter's. -/
theorem State.armExec_other (h : decodeArm w = .other) (hnop : w ≠ s.cfg.nopWord) :
    s.armExec w abort = s.openExec w abort := by
  simp only [State.armExec, h, if_neg hnop]

/-- An open word that the parameter answers to be done: what the answer changes. -/
theorem State.openExec_done {a : CoreAnswer} (ha : Config.coreExec (s.coreQuery w abort) = a)
    (ho : a.outcome = .done) :
    s.openExec w abort = ({ s with
      core.regs := a.effect.regs, core.mem := s.core.mem.writeAll a.effect.stores
      dbg.vcr := a.vcr, dbg.bvr := a.bvr, dbg.bcr := a.bcr, dbg.wvr := a.wvr, dbg.wcr := a.wcr
      core.drained := false, dbg.rdtrEmpty := s.dbg.rdtrEmpty || a.rdtrRead
      dbg.wdtr := a.wdtrWrite.getD s.dbg.wdtr
      dbg.wdtrFull := s.dbg.wdtrFull || a.wdtrWrite.isSome }, .done) := by
  simp only [State.openExec, ha, ho]
  cases a.rdtrRead <;> cases a.wdtrWrite <;>
    simp [State.applyEffect, State.readRdtr, State.writeWdtr]

/-- An open word that the parameter answers to end in an exception has no effect. -/
theorem State.openExec_exception {a : CoreAnswer} {o : CoreOutcome}
    (ha : Config.coreExec (s.coreQuery w abort) = a) (ho : a.outcome = o) (hne : o ≠ .done) :
    s.openExec w abort = ({ s with core.drained := false }, o) := by
  simp only [State.openExec, ha, ho]

end Words

/-! ### Completion -/

section Completion

variable {s u : State} {w : Word} {abort : Bool} {rest : List Input}

/-- The completion, in Debug state, of a word that ends in a precise Data Abort: DSCR[6] is set with
DSCR[13] = 1. -/
theorem step_completing_preciseAbort (h : s.completing w abort rest)
    (he : (s.afterInput rest).armExec w abort = (u, .preciseAbort))
    (hdebug : u.core.debugState = true) :
    step s = .next { u.endInstruction with
      dbg.dscrBits := if u.execEnabled then u.dbg.dscrBits ||| 0x40 else u.dbg.dscrBits } := by
  rw [step_completing h, he]
  cases hexec : u.execEnabled with
  | false =>
    have hflag : State.recordOutcome .preciseAbort u.endInstruction = u.endInstruction :=
      if_neg fun hand => Bool.eq_false_iff.mp hexec (Bool.and_eq_true_iff.mp hand).2
    rw [hflag]
    rfl
  | true =>
    have hflag : State.recordOutcome .preciseAbort u.endInstruction =
        u.endInstruction.setDscrBit 6 true := if_pos (Bool.and_eq_true_iff.mpr ⟨hdebug, hexec⟩)
    rw [hflag, State.setDscrBit, setBit_true _ (by decide)]
    rfl

end Completion

/-- Settles O44: each transfer by its equation; the flags are `Config.mrcFlags`'s. -/
theorem dtrTransfers : Obligations.DtrTransfers := by
  intro s rd abort rest
  refine ⟨fun v h hrd hv => ?write, fun c h hrd hc => ?read, fun h => ?flags⟩
  case write =>
    exact step_completing_done h (State.armExec_dtrWrite (decodeArm_dtrWrite rd) hrd hv)
  case read => exact step_completing_done h (State.armExec_dtrRead (decodeArm_dtrRead rd) hrd hc)
  case flags =>
    exact ⟨Config.mrcFlags s.dbg.rdtr s.core.regs.cpsr,
      step_completing_done h (State.armExec_dtrRead_pc (by decide))⟩

/-- Settles O45: the MCR with R15, and an open word by the outcome the parameter answers. -/
theorem undefinedSetsStickyFlag : Obligations.UndefinedSetsStickyFlag := by
  intro s abort rest hdebug
  refine ⟨fun h => ?mcrPc, fun w h hw hnop => ?openWord⟩
  case mcrPc =>
    exact step_completing_undefined h (State.armExec_dtrWrite_pc (by decide)) hdebug
  case openWord =>
    obtain ⟨a, ha⟩ : ∃ a, Config.coreExec (s.coreQuery w abort) = a := ⟨_, rfl⟩
    have he := State.armExec_other (abort := abort) (s := s.afterInput rest) hw hnop
    rw [ha]
    dsimp only
    cases ho : a.outcome with
    | done => exact step_completing_done h (he.trans (State.openExec_done ha ho))
    | preciseAbort =>
      exact step_completing_preciseAbort h (he.trans (State.openExec_exception ha ho nofun)) hdebug
    | undefined =>
      exact step_completing_undefined h (he.trans (State.openExec_exception ha ho nofun)) hdebug

/-- Settles O46: LDC and STC by their equations, and the bytes of a word in memory. -/
theorem wordTransfers : Obligations.WordTransfers := by
  intro s rest hr0
  have htop : s.core.regs.r0.toNat + 4 ≤ 2 ^ 32 := toNat_add_le_of_aligned (k := 2) (by decide) hr0
  have hldc (h : s.completing 0xECB05E01 false rest) :=
    step_completing_done h (State.armExec_ldc (s := s.afterInput rest) hr0)
  refine ⟨fun h => hldc h, fun v h hbytes => ?ldcBytes, fun h => ?stc⟩
  case ldcBytes => rw [← Memory.loadWord_of_read htop hbytes]; exact hldc h
  case stc =>
    exact ⟨_, step_completing_done h (State.armExec_stc (s := s.afterInput rest) hr0),
      Memory.store_word _ _ _ htop⟩

/-- Settles O48: the four words by their equations, and the bytes of a halfword in memory. -/
theorem halfwordAndByteTransfers : Obligations.HalfwordAndByteTransfers := by
  intro s rest
  have htop (hr0 : s.core.regs.r0 &&& 1 = 0) : s.core.regs.r0.toNat + 2 ≤ 2 ^ 32 :=
    toNat_add_le_of_aligned (k := 1) (by decide) hr0
  have hldrh (h : s.completing 0xE0D010B2 false rest) (hr0 : s.core.regs.r0 &&& 1 = 0) :=
    step_completing_done h (State.armExec_ldrh (s := s.afterInput rest) hr0)
  have hldrb (h : s.completing 0xE4D01001 false rest) :=
    step_completing_done h (State.armExec_ldrb (s := s.afterInput rest))
  refine ⟨fun h hr0 => hldrh h hr0, fun v h hr0 hbytes => ?ldrhBytes, fun h => hldrb h,
    fun v h hbyte => ?ldrbByte, fun h hr0 => ?strh, fun h => ?strb⟩
  case ldrhBytes =>
    have hv : s.core.mem.loadHalf s.core.regs.bigEndian s.core.regs.r0 = v :=
      (Memory.loadHalf_of_read (htop hr0) hbytes).trans BitVec.extractLsb'_eq_self
    rw [← hv]
    exact hldrh h hr0
  case ldrbByte => rw [← Memory.loadByte_of_read hbyte]; exact hldrb h
  case strh =>
    exact ⟨_, step_completing_done h (State.armExec_strh (s := s.afterInput rest) hr0),
      Memory.store_half _ _ _ (htop hr0)⟩
  case strb =>
    exact ⟨_, step_completing_done h (State.armExec_strb (s := s.afterInput rest)),
      Memory.store_byte _ _ _ _⟩

end Sys2Proof.Machine

end

/-! ## Software, interrupts and debug events (42_debug_execution.md R194, R199 to R202) -/

section

namespace Sys2Proof.Machine

variable {s : State} {rest : List Input}

/-! ### In Debug state -/

theorem State.interruptStep_halted (e : CoreEffect) (h : s.core.debugState = true) :
    s.interruptStep e = s := if_pos h

theorem State.coreRunsStep_halted (e : CoreEffect) (d : Option Bool)
    (h : s.core.debugState = true) : s.coreRunsStep e d = s := if_pos h

theorem State.softwareDebugEventStep_halted (kind : DebugEventKind)
    (h : s.core.debugState = true) : s.softwareDebugEventStep kind = .next s := if_pos h

theorem State.coreHaltStep_halted (h : s.core.debugState = true) : s.coreHaltStep = s :=
  if_neg (by simp [h])

theorem CoreRegs.userMode_eq_false_iff (c : CoreRegs) :
    c.userMode = false ↔ c.cpsr.extractLsb' 0 5 ≠ 0x10#5 := decide_eq_false_iff_not

/-- Software may access the DCC outside Debug state, but in User mode not with DSCR[12] = 1. -/
theorem State.softwareMayAccess_iff :
    s.softwareMayAccess = true ↔ s.core.debugState = false ∧
      (s.dbg.dscrBits.getLsbD 12 = false ∨ s.core.regs.cpsr.extractLsb' 0 5 ≠ 0x10#5) := by
  simp only [State.softwareMayAccess, State.userDccDisabled, Bool.and_eq_true, Bool.not_eq_true',
    Bool.and_eq_false_iff, CoreRegs.userMode_eq_false_iff]

theorem State.softwareDccStep_denied (op : DccOp) (abort : Bool)
    (h : ¬ s.softwareMayAccess = true) : s.softwareDccStep op abort = s := if_neg h

/-- Settles O51: each of the five steps is empty in Debug state. -/
theorem debugStateIgnores : Obligations.DebugStateIgnores := by
  intro s e rest hi hdebug hkind
  have hdebug' : (s.afterInput rest).core.debugState = true := hdebug
  rcases hkind with ⟨x, rfl⟩ | ⟨x, d, rfl⟩ | ⟨k, rfl⟩ | rfl | ⟨op, abort, rfl⟩ <;>
    rw [step_agent hi (fun _ _ => nofun) nofun]
  · exact congrArg Host.Outcome.next (State.interruptStep_halted x hdebug')
  · exact congrArg Host.Outcome.next (State.coreRunsStep_halted x d hdebug')
  · exact State.softwareDebugEventStep_halted k hdebug'
  · exact congrArg Host.Outcome.next (State.coreHaltStep_halted hdebug')
  · have hdenied : ¬ (s.afterInput rest).softwareMayAccess = true := fun hmay =>
      Bool.eq_false_iff.mp (State.softwareMayAccess_iff.mp hmay).1 hdebug'
    exact congrArg Host.Outcome.next (State.softwareDccStep_denied op abort hdenied)

/-! ### Outside Debug state -/

/-- A permitted access of the DCC by software has the effect of the word it executes. -/
theorem step_softwareDcc {op : DccOp} {abort : Bool} {u : State} {o : CoreOutcome}
    (hi : s.env.inputs = .softwareDcc op abort :: rest) (hmay : s.softwareMayAccess = true)
    (he : (s.afterInput rest).armExec op.word abort = (u, o)) : step s = .next u := by
  rw [step_agent hi (fun _ _ => nofun) nofun]
  exact congrArg Host.Outcome.next ((if_pos hmay).trans (congrArg Prod.fst he))

/-- A step of software outside Debug state: its effect, and DSCR[6] if it is given with DSCR[13] = 0. -/
theorem State.coreRunsStep_running (e : CoreEffect) (d : Option Bool)
    (h : s.core.debugState = false) :
    s.coreRunsStep e d = { s.applyEffect e with
      dbg.dscrBits :=
        match d with
        | none => s.dbg.dscrBits
        | some b =>
          if s.execEnabled then s.dbg.dscrBits
          else (s.dbg.dscrBits &&& 0xFFFFFFBF) ||| (if b then 0x40 else 0) } := by
  unfold State.coreRunsStep
  rw [if_neg (Bool.eq_false_iff.mp h)]
  cases d with
  | none => rfl
  | some b => cases hexec : s.execEnabled <;> rfl

/-- Settles O52: the accesses permitted, by their words; those denied; and any other step of software. -/
theorem softwareDccAccess : Obligations.SoftwareDccAccess := by
  intro s rest hdebug
  refine ⟨fun hperm => ?permitted, fun hdisabled huser op abort hi => ?denied, fun e d hi => ?runs⟩
  case permitted =>
    have hmay : s.softwareMayAccess = true := State.softwareMayAccess_iff.mpr ⟨hdebug, hperm⟩
    refine ⟨fun rd v abort hi hrd hv => ?mcr, fun abort hi => ?mcrPc,
      fun rd c abort hi hrd hc => ?mrc, fun abort hi => ?mrcPc, fun rd c abort hi hc => ?readDscr,
      fun hi hr0 => ?ldc, fun hi hr0 => ?stc, fun op hi hop hr0 => ?aborted⟩
    case mcr =>
      exact step_softwareDcc hi hmay (State.armExec_dtrWrite (decodeArm_dtrWrite rd) hrd hv)
    case mcrPc =>
      exact step_softwareDcc hi hmay (State.armExec_dtrWrite_pc (decodeArm_dtrWrite 15))
    case mrc =>
      exact step_softwareDcc hi hmay
        (State.armExec_dtrRead (s := s.afterInput rest) (decodeArm_dtrRead rd) hrd hc)
    case mrcPc =>
      exact ⟨Config.mrcFlags s.dbg.rdtr s.core.regs.cpsr,
        step_softwareDcc hi hmay (State.armExec_dtrRead_pc (decodeArm_dtrRead 15))⟩
    case readDscr =>
      exact step_softwareDcc hi hmay (State.armExec_dscrRead (decodeArm_dscrRead rd) hc)
    case ldc => exact step_softwareDcc hi hmay (State.armExec_ldc (s := s.afterInput rest) hr0)
    case stc =>
      obtain ⟨_, hload, hframe⟩ := Memory.store_word s.core.mem s.core.regs.bigEndian s.dbg.rdtr
        (toNat_add_le_of_aligned (k := 2) (by decide) hr0)
      exact ⟨_, step_softwareDcc hi hmay (State.armExec_stc (s := s.afterInput rest) hr0),
        hload, hframe⟩
    case aborted =>
      have hword : decodeArm op.word = .ldcDtr ∨ decodeArm op.word = .stcDtr :=
        hop.imp (by rintro rfl; decide) (by rintro rfl; decide)
      exact step_softwareDcc hi hmay (State.armExec_dtrAccess_abort hword hr0)
  case denied =>
    have hdenied : ¬ (s.afterInput rest).softwareMayAccess = true := fun hmay =>
      (State.softwareMayAccess_iff.mp hmay).2.elim (Bool.eq_false_iff.mp · hdisabled) (· huser)
    rw [step_agent hi (fun _ _ => nofun) nofun]
    exact congrArg Host.Outcome.next (State.softwareDccStep_denied op abort hdenied)
  case runs =>
    rw [step_agent hi (fun _ _ => nofun) nofun]
    exact congrArg Host.Outcome.next (State.coreRunsStep_running (s := s.afterInput rest) e d hdebug)

end Sys2Proof.Machine

end

/-! ## Entry to Debug state and exit from it (60_exceptions.md R270 to R285, 70_reset_and_hazards.md R312) -/

section

namespace Sys2Proof.Machine

/-! ### EDBGRQ, the halt step, the restart step and debug events -/

section Events

variable {s : State}

/-- What EDBGRQ does to the one field it can change, the Halt request. -/
theorem State.applyEdbgrq_eq (s : State) :
    s.applyEdbgrq = { s with
      core.haltReq := s.core.haltReq || (s.pins.edbgrq && s.pins.dbgen && !s.core.debugState) } := by
  unfold State.applyEdbgrq
  split
  · next h => rw [h, Bool.or_true]
  · next h => rw [Bool.eq_false_iff.mpr h, Bool.or_false]

@[simp] theorem State.applyEdbgrq_core_debugState (s : State) :
    s.applyEdbgrq.core.debugState = s.core.debugState := by
  rw [State.applyEdbgrq_eq]

/-- The processor state that the T and J bits name, J first. -/
theorem isaOf_eq_ite (cpsr : Word) :
    isaOf cpsr =
      if cpsr.getLsbD 24 then (if cpsr.getLsbD 5 then .other else .jazelle)
      else (if cpsr.getLsbD 5 then .thumb else .arm) := by
  unfold isaOf
  split <;> simp only [*, if_true, Bool.false_eq_true, if_false]

theorem State.coreHaltStep_enters (hreq : s.core.haltReq = true) (hrun : s.core.debugState = false)
    (hperm : s.debugPermitted = true) :
    s.coreHaltStep = { s.enterDebugState with core.haltReq := false } :=
  if_pos (by rw [hreq, hrun, hperm]; rfl)

theorem State.coreHaltStep_keeps
    (h : s.core.haltReq = false ∨ s.core.debugState = true ∨ s.debugPermitted = false) :
    s.coreHaltStep = s := by
  refine if_neg ?_
  rcases h with h | h | h <;> simp [h]

theorem State.coreRestartStep_leaves (hreq : s.core.restartReq = true)
    (hexec : s.execEnabled = false) :
    s.coreRestartStep = .next { s with
      core.debugState := false, core.restartReq := false, dbg.coreRestarted := true
      core.haltReq := s.core.haltReq || (s.pins.edbgrq && s.pins.dbgen)
      core.drained := false } := by
  rw [State.coreRestartStep, if_pos hreq, State.leaveDebugState, if_neg (Bool.eq_false_iff.mp hexec),
    State.applyEdbgrq_eq]
  simp only [Bool.not_false, Bool.and_true]

theorem State.coreRestartStep_refused (hreq : s.core.restartReq = true)
    (hexec : s.execEnabled = true) : s.coreRestartStep = .refused .u2RestartWithExecEnable := by
  rw [State.coreRestartStep, if_pos hreq, State.leaveDebugState, if_pos hexec]

theorem State.coreRestartStep_idle (hreq : s.core.restartReq = false) :
    s.coreRestartStep = .next s := if_neg (Bool.eq_false_iff.mp hreq)

theorem State.softwareDebugEventStep_enters (kind : DebugEventKind) (hrun : s.core.debugState = false)
    (hhalting : s.haltingMode = true) (hperm : s.debugPermitted = true) :
    s.softwareDebugEventStep kind = .next { s.enterDebugState with core.haltReq := false } := by
  rw [State.softwareDebugEventStep, if_neg (Bool.eq_false_iff.mp hrun),
    if_pos (Bool.and_eq_true_iff.mpr ⟨hhalting, hperm⟩)]

/-- Outside Debug state an event that does not halt the core is Monitor debug-mode's, or undescribed. -/
theorem State.softwareDebugEventStep_not_halting (kind : DebugEventKind)
    (hrun : s.core.debugState = false)
    (hnot : s.haltingMode = false ∨ s.debugPermitted = false) :
    s.softwareDebugEventStep kind =
      if s.monitorMode then .next (s.applyEffect (Config.monitorException kind s.core.regs))
      else .refused .debugEventUndescribed := by
  rw [State.softwareDebugEventStep, if_neg (Bool.eq_false_iff.mp hrun),
    if_neg (Bool.eq_false_iff.mp (Bool.and_eq_false_iff.mpr hnot))]

theorem State.monitorMode_eq_true_iff :
    s.monitorMode = true ↔
      s.dbg.dscrBits.getLsbD 15 = true ∧ s.dbg.dscrBits.getLsbD 14 = false := by
  rw [State.monitorMode, Bool.and_eq_true, Bool.not_eq_true']

end Events

/-- Settles O40: the halt step with its guard met, and with a part of the guard failing. -/
theorem haltStepEntersDebugState : Obligations.HaltStepEntersDebugState := by
  intro s rest hi
  rw [step_agent hi (fun _ _ => nofun) nofun]
  refine ⟨fun hreq hrun hperm => ?enters, fun h => ?keeps⟩
  case enters =>
    rw [← isaOf_eq_ite]
    exact ⟨_, congrArg Host.Outcome.next
        (State.coreHaltStep_enters (s := s.afterInput rest) hreq hrun hperm),
      (State.getLsbD_dscr_view _).1, rfl⟩
  case keeps =>
    exact congrArg Host.Outcome.next (State.coreHaltStep_keeps (s := s.afterInput rest) h)

/-- Settles O41: either pin changes, and EDBGRQ is applied. -/
theorem edbgrqRequestsHalt : Obligations.EdbgrqRequestsHalt := by
  intro s b rest
  refine ⟨fun hi => ?edbgrq, fun hi => ?dbgen⟩ <;> rw [step_agent hi (fun _ _ => nofun) nofun] <;>
    exact congrArg Host.Outcome.next (State.applyEdbgrq_eq _)

/-- Settles O42: the restart step by its request and DSCR[13]. -/
theorem restartStep : Obligations.RestartStep := by
  intro s rest hi
  rw [step_agent hi (fun _ _ => nofun) nofun]
  exact ⟨State.coreRestartStep_leaves (s := s.afterInput rest),
    State.coreRestartStep_refused (s := s.afterInput rest),
    State.coreRestartStep_idle (s := s.afterInput rest)⟩

/-- Settles O43: in Debug state, halting the core, and the two ends of an event that does not halt it. -/
theorem softwareDebugEvents : Obligations.SoftwareDebugEvents := by
  intro s kind rest hi
  rw [step_agent hi (fun _ _ => nofun) nofun]
  have hother := State.softwareDebugEventStep_not_halting (s := s.afterInput rest) kind
  have hmonitor := State.monitorMode_eq_true_iff (s := s.afterInput rest)
  refine ⟨State.softwareDebugEventStep_halted (s := s.afterInput rest) kind,
    State.softwareDebugEventStep_enters (s := s.afterInput rest) kind,
    fun hrun h15 h14 => ?monitor, fun hrun h14 hperm => ?notPermitted, fun hrun h15 h14 => ?noMode⟩
  case monitor => exact (hother hrun (.inl h14)).trans (if_pos (hmonitor.mpr ⟨h15, h14⟩))
  case notPermitted =>
    exact (hother hrun (.inr hperm)).trans
      (if_neg fun hm => Bool.eq_false_iff.mp (hmonitor.mp hm).2 h14)
  case noMode =>
    exact (hother hrun (.inl h14)).trans
      (if_neg fun hm => Bool.eq_false_iff.mp h15 (hmonitor.mp hm).1)

/-! ### Which steps enter and leave Debug state -/

/-- What a step of another agent does to Debug state: nothing, or an entry or an exit on one of the events
the spec names. -/
inductive DebugStateChange (e : Input) (s t : State) : Prop
  | kept (same : t.core.debugState = s.core.debugState)
  | entered (halted : t.core.debugState = true) (permitted : s.debugPermitted = true)
      (event : (e = .coreHalt ∧ s.core.haltReq = true) ∨
        ∃ k, e = .softwareDebugEvent k ∧ s.haltingMode = true)
  | left (running : t.core.debugState = false)
      (event : (e = .coreRestart ∧ s.core.restartReq = true ∧ s.execEnabled = false) ∨
        ∃ v, e = .processorReset v)

theorem DebugStateChange.of_coreHalt (s : State) :
    DebugStateChange .coreHalt s s.coreHaltStep := by
  by_cases h : s.core.haltReq = false ∨ s.core.debugState = true ∨ s.debugPermitted = false
  · exact .kept (by rw [State.coreHaltStep_keeps h])
  · simp only [not_or, Bool.not_eq_false, Bool.not_eq_true] at h
    obtain ⟨hreq, hrun, hperm⟩ := h
    exact .entered (by rw [State.coreHaltStep_enters hreq hrun hperm]; rfl) hperm (.inl ⟨rfl, hreq⟩)

theorem DebugStateChange.of_coreRestart {s t : State} (h : s.coreRestartStep = .next t) :
    DebugStateChange .coreRestart s t := by
  cases hreq : s.core.restartReq with
  | false =>
    cases (State.coreRestartStep_idle hreq).symm.trans h
    exact .kept rfl
  | true =>
    cases hexec : s.execEnabled with
    | false =>
      cases (State.coreRestartStep_leaves hreq hexec).symm.trans h
      exact .left rfl (.inl ⟨rfl, hreq, hexec⟩)
    | true => cases (State.coreRestartStep_refused hreq hexec).symm.trans h

theorem DebugStateChange.of_softwareDebugEvent {kind : DebugEventKind} {s t : State}
    (h : s.softwareDebugEventStep kind = .next t) :
    DebugStateChange (.softwareDebugEvent kind) s t := by
  cases hdebug : s.core.debugState with
  | true =>
    cases (State.softwareDebugEventStep_halted kind hdebug).symm.trans h
    exact .kept rfl
  | false =>
    by_cases hnot : s.haltingMode = false ∨ s.debugPermitted = false
    · rw [State.softwareDebugEventStep_not_halting kind hdebug hnot] at h
      split at h <;> cases h
      exact .kept rfl
    · simp only [not_or, Bool.not_eq_false] at hnot
      obtain ⟨hhalting, hperm⟩ := hnot
      cases (State.softwareDebugEventStep_enters kind hdebug hhalting hperm).symm.trans h
      exact .entered rfl hperm (.inr ⟨kind, rfl, hhalting⟩)

/-- Completing an instruction leaves Debug state as it is, whatever the word and its outcome. -/
theorem State.completeInstruction_debugState (abort : Bool) (s : State) :
    (s.completeInstruction abort).core.debugState = s.core.debugState := by
  cases hw : s.core.inFlight with
  | none => rw [State.completeInstruction_none abort hw]
  | some w =>
    rw [State.completeInstruction_inFlight abort hw, State.recordOutcome_core]
    exact (s.armExec_frame w abort).debugState

/-- Every step of another agent keeps Debug state but for the named events. -/
theorem agentStep_debugStateChange {e : Input} {s t : State} (h : agentStep e s = .next t) :
    DebugStateChange e s t := by
  cases e with
  | tck | engine | spiden | etm | coreSetsDscr19 => cases h; exact .kept rfl
  | trst b => cases h; cases b <;> exact .kept rfl
  | dbgen | edbgrq => cases h; exact .kept (State.applyEdbgrq_core_debugState _)
  | coreHalt => cases h; exact .of_coreHalt s
  | coreRestart => exact .of_coreRestart h
  | coreComplete abort => cases h; exact .kept (s.completeInstruction_debugState abort)
  | coreRuns e d =>
    cases h
    rcases s.coreRunsStep_cases e d with h | h | ⟨_, _, h⟩ <;> rw [h] <;> exact .kept rfl
  | softwareDcc op abort => cases h; exact .kept (s.softwareDccStep_frame op abort).debugState
  | softwareDebugEvent kind => exact .of_softwareDebugEvent h
  | interrupt e =>
    cases h
    rcases s.interruptStep_cases e with h | h <;> rw [h] <;> exact .kept rfl
  | impreciseAbortArises r0 stores =>
    cases h
    rcases s.abortArisesStep_cases r0 stores with h | ⟨_, _, h⟩ <;> rw [h] <;> exact .kept rfl
  | impreciseAbortRecognised =>
    cases h
    obtain ⟨_, h | h⟩ := s.abortRecognisedStep_cases <;> rw [h] <;> exact .kept rfl
  | processorReset v =>
    cases h
    exact .left (State.applyEdbgrq_core_debugState _) (.inr ⟨v, rfl⟩)

/-- Settles O56: by the kind of step; only a step of another agent can change Debug state. -/
theorem debugStateEntryAndExit : Obligations.DebugStateEntryAndExit := by
  intro s t h
  have unchanged (same : t.core.debugState = s.core.debugState) {P Q : Prop} :
      (s.core.debugState = false → t.core.debugState = true → P) ∧
      (s.core.debugState = true → t.core.debugState = false → Q) := by
    rw [same]
    exact ⟨fun h0 h1 => absurd (h0.symm.trans h1) nofun, fun h1 h0 => absurd (h1.symm.trans h0) nofun⟩
  cases step_eq_next h with
  | @tck _ tms tdi rest input cycle =>
    obtain ⟨-, -, hdebug, -⟩ := cyclesLeaveTheCore s t tms tdi rest input h
    exact unchanged hdebug
  | request | nothing => exact unchanged rfl
  | @agent _ e rest input action =>
    cases agentStep_debugStateChange action with
    | kept same => exact unchanged same
    | entered halted permitted event =>
      refine ⟨fun _ _ => ⟨permitted, ?_⟩, fun _ hrun => absurd (hrun.symm.trans halted) nofun⟩
      rcases event with ⟨rfl, hreq⟩ | ⟨k, rfl, hhalting⟩
      · exact .inl ⟨rest, input, hreq⟩
      · exact .inr ⟨k, rest, input, hhalting⟩
    | left running event =>
      refine ⟨fun _ hhalt => absurd (running.symm.trans hhalt) nofun, fun _ _ => ?_⟩
      rcases event with ⟨rfl, hreq, hexec⟩ | ⟨v, rfl⟩
      · exact .inl ⟨rest, input, hreq, hexec⟩
      · exact .inr ⟨v, rest, input⟩

end Sys2Proof.Machine

end

/-! ## Precise and imprecise Data Aborts (60_exceptions.md R275 to R277, 42_debug_execution.md R208) -/

section

namespace Sys2Proof.Machine

section Aborts

variable {s : State} {w : Word} {abort : Bool}

/-- Setting a stored DSCR bit, as an OR with it. -/
theorem State.setDscrBit_true (s : State) {n : Nat} (hn : n < 32) :
    s.setDscrBit n true =
      { s with dbg.dscrBits := s.dbg.dscrBits ||| BitVec.twoPow 32 n } := by
  rw [State.setDscrBit, setBit_true _ hn]

/-! ### Precise aborts -/

/-- An aborted halfword access. -/
theorem State.armExec_halfword_abort (hw : decodeArm w = .ldrh ∨ decodeArm w = .strh)
    (hr0 : s.core.regs.r0 &&& 1 = 0) :
    s.armExec w true = ({ s with core.drained := false }, .preciseAbort) := by
  rcases hw with hw | hw <;> simp only [State.armExec, hw] <;> exact State.access_abort hr0

/-- An aborted byte access, aligned at any address. -/
theorem State.armExec_byte_abort (hw : decodeArm w = .ldrb ∨ decodeArm w = .strb) :
    s.armExec w true = ({ s with core.drained := false }, .preciseAbort) := by
  rcases hw with hw | hw <;> simp only [State.armExec, hw] <;>
    exact State.access_abort BitVec.and_zero

/-- The completion, in Debug state with DSCR[13] = 1, of a word that ends in a precise Data Abort. -/
theorem step_completing_preciseAbort_enabled {u : State} {rest : List Input}
    (h : s.completing w abort rest) (he : (s.afterInput rest).armExec w abort = (u, .preciseAbort))
    (hdebug : u.core.debugState = true) (hexec : u.execEnabled = true) :
    step s = .next { u.endInstruction with dbg.dscrBits := u.dbg.dscrBits ||| 0x40 } := by
  rw [step_completing_preciseAbort h he hdebug, if_pos hexec]

/-! ### The barrier and the NOP -/

/-- The word `MCR p15,0,Rd,c7,c10,4`, whatever Rd is. -/
theorem decodeArm_barrier (rd : BitVec 4) :
    decodeArm (0xEE07#16 ++ (rd ++ 0xF9A#12)) = .barrier := by
  revert rd
  decide

theorem State.armExec_barrier (h : decodeArm w = .barrier) :
    s.armExec w abort = ({ s with core.drained := true }, .done) := by
  simp only [State.armExec, h]

theorem State.armExec_nop (h : decodeArm s.cfg.nopWord = .other) :
    s.armExec s.cfg.nopWord abort = (s.nopTakesAborts, .done) := by
  simp only [State.armExec, h, if_true]

/-- After the barrier the NOP takes every pending abort, and sets DSCR[7] if there was one. -/
theorem State.nopTakesAborts_drained (h : s.core.drained = true) :
    s.nopTakesAborts = { s with
      core.pendingAborts := 0
      dbg.dscrBits :=
        if s.core.pendingAborts = 0 then s.dbg.dscrBits else s.dbg.dscrBits ||| 0x80 } := by
  by_cases hn : s.core.pendingAborts = 0
  · have hnone : s.nopTakesAborts = s := if_neg (by simp [hn])
    rw [hnone, if_pos hn, ← hn]
  · have hsome : s.nopTakesAborts = State.setDscrBit 7 true { s with core.pendingAborts := 0 } :=
      if_pos (by simp [h, Nat.pos_of_ne_zero hn])
    rw [hsome, if_neg hn, State.setDscrBit_true _ (by decide)]
    rfl

theorem State.nopTakesAborts_undrained (h : s.core.drained = false) : s.nopTakesAborts = s :=
  if_neg (by simp [h])

/-! ### Imprecise aborts -/

theorem State.abortRecognisedStep_halted (hdebug : s.core.debugState = true)
    (hpending : 0 < s.core.pendingAborts) :
    s.abortRecognisedStep = { s with
      core.pendingAborts := s.core.pendingAborts - 1
      dbg.dscrBits := s.dbg.dscrBits ||| 0x80 } := by
  rw [State.abortRecognisedStep, if_neg hpending.ne']
  exact (if_pos hdebug).trans (State.setDscrBit_true _ (by decide))

theorem State.abortRecognisedStep_running (hrun : s.core.debugState = false)
    (hpending : 0 < s.core.pendingAborts) :
    s.abortRecognisedStep = { s with core.pendingAborts := s.core.pendingAborts - 1 } := by
  rw [State.abortRecognisedStep, if_neg hpending.ne']
  exact if_neg (Bool.eq_false_iff.mp hrun)

theorem State.abortRecognisedStep_none (h : s.core.pendingAborts = 0) :
    s.abortRecognisedStep = s := if_pos h

theorem State.abortArisesStep_drained (r0 : Word) (stores : List (Word × Byte))
    (h : s.core.drained = true) : s.abortArisesStep r0 stores = s := if_pos h

theorem State.abortArisesStep_undrained (r0 : Word) (stores : List (Word × Byte))
    (h : s.core.drained = false) :
    s.abortArisesStep r0 stores = { s with
      core.pendingAborts := s.core.pendingAborts + 1
      core.mem := s.core.mem.writeAll stores
      core.regs := if s.core.debugState then s.core.regs.setR0 r0 else s.core.regs } :=
  if_neg (Bool.eq_false_iff.mp h)

end Aborts

/-- Settles O47: the six accesses by size, and DSCR[6] at the completion. -/
theorem preciseAbortSetsStickyFlag : Obligations.PreciseAbortSetsStickyFlag := by
  intro s w rest h hdebug hexec hw
  have habort : (s.afterInput rest).armExec w true =
      ({ s.afterInput rest with core.drained := false }, .preciseAbort) := by
    rcases hw with ⟨hw, hr0⟩ | ⟨hw, hr0⟩ | hw
    · exact State.armExec_dtrAccess_abort
        ((List.mem_pair.mp hw).imp (by rintro rfl; decide) (by rintro rfl; decide)) hr0
    · exact State.armExec_halfword_abort
        ((List.mem_pair.mp hw).imp (by rintro rfl; decide) (by rintro rfl; decide)) hr0
    · exact State.armExec_byte_abort
        ((List.mem_pair.mp hw).imp (by rintro rfl; decide) (by rintro rfl; decide))
  exact step_completing_preciseAbort_enabled h habort hdebug hexec

/-- Settles O50: each step by its equation. -/
theorem impreciseAborts : Obligations.ImpreciseAborts := by
  intro s rest
  refine ⟨fun hi hdebug hpending => ?recognisedHalted, fun hi hrun hpending => ?recognisedRunning,
    fun hi hnone => ?recognisedNone, fun hi => ?dscr19, fun rd abort h => ?barrier,
    fun abort h hnop hdrained => ?nopDrained, fun abort h hnop hdrained => ?nopUndrained,
    fun r0 l hi hdrained => ?arisesDrained, fun r0 l hi hdrained => ?arisesUndrained⟩
  case barrier => exact step_completing_done h (State.armExec_barrier (decodeArm_barrier rd))
  case nopDrained =>
    have he := State.armExec_nop (s := s.afterInput rest) (abort := abort) hnop
    rw [State.nopTakesAborts_drained (s := s.afterInput rest) hdrained] at he
    exact step_completing_done h he
  case nopUndrained =>
    have he := State.armExec_nop (s := s.afterInput rest) (abort := abort) hnop
    rw [State.nopTakesAborts_undrained (s := s.afterInput rest) hdrained] at he
    exact step_completing_done h he
  all_goals
    rw [step_agent hi (fun _ _ => nofun) nofun]
    refine congrArg Host.Outcome.next ?_
  case recognisedHalted =>
    exact State.abortRecognisedStep_halted (s := s.afterInput rest) hdebug hpending
  case recognisedRunning =>
    exact State.abortRecognisedStep_running (s := s.afterInput rest) hrun hpending
  case recognisedNone => exact State.abortRecognisedStep_none (s := s.afterInput rest) hnone
  case dscr19 => exact State.setDscrBit_true _ (by decide)
  case arisesDrained => exact State.abortArisesStep_drained r0 l hdrained
  case arisesUndrained => exact State.abortArisesStep_undrained r0 l hdrained

end Sys2Proof.Machine

end

/-! ## Reset (70_reset_and_hazards.md R310 to R313) -/

section

namespace Sys2Proof.Machine

/-! ### A DBGTAP reset -/

section Dbgtap

variable {s u : State} {leg : Leg} {tms tdi : Bool} {rest : List Input}

theorem State.stateAction_testLogicReset (hu : u.ctl.tap = .testLogicReset) :
    State.stateAction leg tdi u = .next u.tapReset := by
  simp only [State.stateAction, hu]

theorem State.stateAction_selectIr (hu : u.ctl.tap = .selectIr) :
    State.stateAction leg tdi u = .next u := by
  simp only [State.stateAction, hu]

theorem State.enterAction_testLogicReset {prev : TapState} (hu : u.ctl.tap = .testLogicReset) :
    State.enterAction leg prev u = .next u.tapReset := by
  simp only [State.enterAction, hu]

/-- Entry to Run-Test/Idle from Test-Logic-Reset is no entry from an update, and no leg acts (R140). -/
theorem State.enterAction_idle_of_reset {prev : TapState} (hp : prev = .testLogicReset)
    (hu : u.ctl.tap = .runTestIdle) : State.enterAction leg prev u = .next u := by
  subst hp
  simp [State.enterAction, hu]

theorem State.dbgtdo_testLogicReset (hu : u.ctl.tap = .testLogicReset) : State.dbgtdo leg u = none := by
  simp only [State.dbgtdo, hu]

theorem State.dbgtdo_selectIr (hu : u.ctl.tap = .selectIr) : State.dbgtdo leg u = none := by
  simp only [State.dbgtdo, hu]

/-- The cycle that leaves Test-Logic-Reset resets for standing there. -/
theorem tckCycle_leaves_reset (h : s.due false tdi rest) (ht : s.ctl.tap = .testLogicReset) :
    tckCycle leg s = .next (s.afterCycle false rest).tapReset := by
  rw [tckCycle_due h, State.dbgtdo_testLogicReset (by exact ht),
    State.stateAction_testLogicReset (by exact ht), andThen_next]
  exact State.enterAction_idle_of_reset (u := (s.afterCycle false rest).tapReset) ht
    (congrArg (TapState.next · false) ht)

/-- A cycle that stays in Test-Logic-Reset resets twice: for standing there and for entering it. -/
theorem tckCycle_stays_in_reset (h : s.due true tdi rest) (ht : s.ctl.tap = .testLogicReset) :
    tckCycle leg s = .next (s.afterCycle true rest).tapReset.tapReset := by
  rw [tckCycle_due h, State.dbgtdo_testLogicReset (by exact ht),
    State.stateAction_testLogicReset (by exact ht), andThen_next]
  exact State.enterAction_testLogicReset (u := (s.afterCycle true rest).tapReset)
    (congrArg (TapState.next · true) ht)

/-- The cycle from Select-IR-Scan to Test-Logic-Reset resets for entering it. -/
theorem tckCycle_enters_reset (h : s.due true tdi rest) (ht : s.ctl.tap = .selectIr) :
    tckCycle leg s = .next (s.afterCycle true rest).tapReset := by
  rw [tckCycle_due h, State.dbgtdo_selectIr (by exact ht), State.stateAction_selectIr (by exact ht),
    andThen_next]
  exact State.enterAction_testLogicReset (u := s.afterCycle true rest)
    (congrArg (TapState.next · true) ht)

/-- In Test-Logic-Reset or on the way into it a cycle is a plain move of the state machine and one or two resets
of the controller. -/
theorem tckCycle_tapReset (h : s.due tms tdi rest)
    (htap : s.ctl.tap = .testLogicReset ∨ s.ctl.tap = .selectIr ∧ tms = true) :
    ∃ u, (u = s.afterCycle tms rest ∨ u = (s.afterCycle tms rest).tapReset) ∧
      tckCycle leg s = .next u.tapReset := by
  rcases htap with ht | ⟨ht, rfl⟩
  · cases tms with
    | false => exact ⟨_, .inl rfl, tckCycle_leaves_reset h ht⟩
    | true => exact ⟨_, .inr rfl, tckCycle_stays_in_reset h ht⟩
  · exact ⟨_, .inl rfl, tckCycle_enters_reset h ht⟩

/-- Where those cycles lead. -/
theorem TapState.next_reset {p : TapState}
    (hp : p = .testLogicReset ∨ p = .selectIr ∧ tms = true) :
    p.next tms = if tms then .testLogicReset else .runTestIdle := by
  rcases hp with rfl | ⟨rfl, rfl⟩ <;> rfl

end Dbgtap

/-- Settles O6: a reset of the controller, once or twice, after a move that leaves every other part alone. -/
theorem testLogicResetResets : Obligations.TestLogicResetResets := by
  intro s tms tdi rest h htap
  obtain ⟨u, hu, hcycle⟩ := tckCycle_tapReset (leg := legOf s.ctl.ir s.ctl.screg) h htap
  have hmove : u.tapReset.ctl.tap = s.ctl.tap.next tms := by rcases hu with rfl | rfl <;> rfl
  refine ⟨u.tapReset, (step_tck_leg h.2).trans hcycle, rfl, rfl,
    hmove.trans (TapState.next_reset htap), ?_⟩
  rcases hu with rfl | rfl <;> exact ⟨rfl, rfl, rfl, rfl, rfl, rfl⟩

/-- Settles O7: the step of the pin, a cycle while it is asserted, and its release. -/
theorem dbgntrstHoldsReset : Obligations.DbgntrstHoldsReset := by
  refine ⟨fun s rest hi => ?asserted, fun s tms tdi rest hi htrst => ?held, fun s rest hi => ?released⟩
  case asserted =>
    exact ⟨State.heldInReset { s.afterInput rest with pins.trst := true },
      step_agent hi (fun _ _ => nofun) nofun, rfl, rfl, rfl, rfl, rfl, rfl, rfl, rfl, rfl⟩
  case held =>
    exact ⟨State.heldInReset (s.afterInput rest), (step_tck_leg hi).trans (tckCycle_trst htrst hi),
      rfl, rfl, rfl, rfl, rfl, rfl, rfl, rfl, rfl⟩
  case released => exact step_agent hi (fun _ _ => nofun) nofun

/-! ### The state a run starts from, and a processor reset -/

/-- The reset state is safe. -/
theorem State.reset_inv : State.reset.Inv where
  memory := rfl
  views := rfl
  disabledComplete _ := rfl
  abortComplete _ := rfl
  inFlight := rfl
  enabledHalted := nofun
  restartHalted := nofun
  haltRunning := nofun
  edbgrqHeld := nofun
  trstHolds := nofun
  readyFresh := nofun
  requestFresh := nofun

/-- DSCR[15:14] = b00, neither debug-mode, when both stored bits are 0. -/
theorem State.dscr_modeBits_zero {s : State} (h14 : s.dbg.dscrBits.getLsbD 14 = false)
    (h15 : s.dbg.dscrBits.getLsbD 15 = false) : s.dscr.extractLsb' 14 2 = 0b00 := by
  have b14 := (s.getLsbD_dscr_stored (k := 14) (by decide)).trans h14
  have b15 := (s.getLsbD_dscr_stored (k := 15) (by decide)).trans h15
  refine BitVec.eq_of_getLsbD_eq fun i hi => ?_
  obtain rfl | rfl : i = 0 ∨ i = 1 := by omega
  · simpa [BitVec.getLsbD_extractLsb'] using b14
  · simpa [BitVec.getLsbD_extractLsb'] using b15

/-- A processor reset leaves neither debug-mode selected. -/
theorem resetDscr_modeBits (v : Word) :
    (resetDscr v).getLsbD 14 = false ∧ (resetDscr v).getLsbD 15 = false := by
  constructor <;> simp [resetDscr, -BitVec.getLsbD_eq_getElem]

/-- A processor reset stores the cleared DSCR, and but for the look at EDBGRQ no request is left. -/
theorem State.processorResetStep_eq (v : ProcessorResetValues) (s : State) :
    s.processorResetStep v = State.applyEffect v.core { s with
      dbg :=
        { dscrBits := resetDscr v.dscr, coreRestarted := v.coreRestarted, itr := v.itr
          instCompl := true, rdtr := v.rdtr, rdtrEmpty := v.rdtrEmpty
          wdtr := v.wdtr, wdtrFull := v.wdtrFull, req := none, rdData := none
          vcr := v.vcr, bvr := v.bvr, bcr := v.bcr, wvr := v.wvr, wcr := v.wcr }
      core.debugState := false, core.haltReq := s.pins.edbgrq && s.pins.dbgen
      core.restartReq := false, core.inFlight := none, core.pendingAborts := 0
      core.drained := false } := by
  rw [State.processorResetStep, State.applyEdbgrq_eq]
  simp only [State.applyEffect, Bool.false_or, Bool.not_false, Bool.and_true]

/-- Settles O54: the reset state by its values, and a processor reset by its equation. -/
theorem resetMeetsInvariant : Obligations.ResetMeetsInvariant := by
  refine ⟨State.reset_inv, rfl, rfl, rfl, rfl, rfl, rfl, rfl, rfl, rfl,
    State.dscr_modeBits_zero rfl rfl, rfl, rfl, rfl, fun s v rest hi => ?_⟩
  refine ⟨_, (step_agent hi (fun _ _ => nofun) nofun).trans
    (congrArg Host.Outcome.next (State.processorResetStep_eq v (s.afterInput rest))),
    rfl, rfl, rfl, rfl, rfl, rfl, rfl, rfl, rfl, rfl, ?dscr13, ?modes, rfl, rfl, rfl⟩
  case dscr13 =>
    exact (State.getLsbD_dscr_stored _ (by decide)).trans (resetDscr_bit13 v.dscr)
  case modes =>
    obtain ⟨h14, h15⟩ := resetDscr_modeBits v.dscr
    exact State.dscr_modeBits_zero h14 h15

end Sys2Proof.Machine

end
